-- ==== Sys2Proof/Word.lean ====
section
/-! DEFINITION. The word types of the RTS encoder block (00_scope.md R8, R10; 30_encoding.md R91, R101):
every value the spec gives a width is a bit vector of that width; durations, times and counts are natural
numbers (R10). -/

namespace Sys2Proof

/-- A byte of a frame or of a persisted record (`u8`). -/
abbrev Byte := BitVec 8

/-- A control code, a `SUB` field or a checksum nibble (`u4`). -/
abbrev Nibble := BitVec 4

/-- A rolling code (`u16`, R8 `CODE_W`). -/
abbrev Code := BitVec 16

/-- A stored channel id (`u32`, R8 `CID_W`). -/
abbrev Cid := BitVec 32

/-- A host operation word (`u64`, R90). -/
abbrev HostWord := BitVec 64

/-- The `CH` field: a channel slot index (`u8`, R20). -/
abbrev SlotIx := BitVec 8

/-- A 7-byte frame, encoded (R101) or obfuscated (R102); byte 0 is first on the air (R103). -/
structure Frame where
  b0 : Byte
  b1 : Byte
  b2 : Byte
  b3 : Byte
  b4 : Byte
  b5 : Byte
  b6 : Byte
deriving DecidableEq, Repr, Inhabited

/-- The bytes of a frame in order, byte 0 first. -/
def Frame.bytes (f : Frame) : List Byte := [f.b0, f.b1, f.b2, f.b3, f.b4, f.b5, f.b6]

end Sys2Proof
end

