-- ==== Sys2Proof/Syntax.lean ====
section
/-! DEFINITION. The operations of the block as syntax: one constructor of `Instr` per row of
spec/opcode_table.json, in the table's order (30_encoding.md R92, R94, R95, R98, R100; the frame control
codes of R93), and what the environment can present to the block (R90, R100, 43_scheduler.md R252). -/

namespace Sys2Proof

/-- The sync mode of a frame burst (00_scope.md R14; `w[4]` of BUILD_WAVEFORM, R91). -/
inductive SyncMode where
  | full
  | abbreviated
deriving DecidableEq, Repr, Inhabited

/-- The reasons of a refusal (60_exceptions.md R280). -/
inductive RefuseReason where
  | reservedOpcode
  | reservedField
  | badSlot
  | notInitialised
  | reinit
  | queueFull
deriving DecidableEq, Repr, Inhabited

/-- The operations: host words (R92), reserved opcodes (R98), frame control codes (R93) and internal
events (R100). Operands are the fields of R91, taken as they are (R96). -/
inductive Instr where
  /-- `INIT n` (R130). -/
  | init (n : SlotIx)
  /-- `CONSUME n` (R131). -/
  | consume (n : SlotIx)
  /-- `CONFIG n` with neither field present (R135). -/
  | configNone (n : SlotIx)
  /-- `CONFIG n, id=a` (R135). -/
  | configId (n : SlotIx) (a : Cid)
  /-- `CONFIG n, code=c` (R135). -/
  | configCode (n : SlotIx) (c : Code)
  /-- `CONFIG n, id=a, code=c` (R135). -/
  | configIdCode (n : SlotIx) (a : Cid) (c : Code)
  /-- `CONTROL n, STOP` (R225). -/
  | controlStop (n : SlotIx)
  /-- `CONTROL n, OPEN` (R225). -/
  | controlOpen (n : SlotIx)
  /-- `CONTROL n, CLOSE` (R225). -/
  | controlClose (n : SlotIx)
  /-- `CONTROL n, #0x0`: a legal word, not a control request (R94, R277). -/
  | controlInvalid0 (n : SlotIx)
  /-- `CONTROL n, #0x3`: a legal word, not a control request (R94, R277). -/
  | controlInvalid3 (n : SlotIx)
  /-- `CONTROL n, #0x5`: a legal word, not a control request (R94, R277). -/
  | controlInvalid5 (n : SlotIx)
  /-- `CONTROL n, #0x6`: a legal word, not a control request (R94, R277). -/
  | controlInvalid6 (n : SlotIx)
  /-- `CONTROL n, #0x7`: a legal word, not a control request (R94, R277). -/
  | controlInvalid7 (n : SlotIx)
  /-- `CONTROL n, #0x8`: a legal word, not a control request (R94, R277). -/
  | controlInvalid8 (n : SlotIx)
  /-- `CONTROL n, #0x9`: a legal word, not a control request (R94, R277). -/
  | controlInvalid9 (n : SlotIx)
  /-- `CONTROL n, #0xA`: a legal word, not a control request (R94, R277). -/
  | controlInvalidA (n : SlotIx)
  /-- `CONTROL n, #0xB`: a legal word, not a control request (R94, R277). -/
  | controlInvalidB (n : SlotIx)
  /-- `CONTROL n, #0xC`: a legal word, not a control request (R94, R277). -/
  | controlInvalidC (n : SlotIx)
  /-- `CONTROL n, #0xD`: a legal word, not a control request (R94, R277). -/
  | controlInvalidD (n : SlotIx)
  /-- `CONTROL n, #0xE`: a legal word, not a control request (R94, R277). -/
  | controlInvalidE (n : SlotIx)
  /-- `CONTROL n, #0xF`: a legal word, not a control request (R94, R277). -/
  | controlInvalidF (n : SlotIx)
  /-- `PROGRAM n` (R228). -/
  | program (n : SlotIx)
  /-- `ENCODE ctl, cid, code` (R160). -/
  | encode (ctl : Nibble) (cid : Cid) (code : Code)
  /-- `WAVE FULL, b0, ..., b6` (R190). -/
  | waveFull (o : Frame)
  /-- `WAVE ABBR, b0, ..., b6` (R190). -/
  | waveAbbr (o : Frame)
  /-- A word with the reserved `OP = 0x0`; `rest` is `w[63:4]` (R98). -/
  | reservedOp0 (rest : BitVec 60)
  /-- A word with the reserved `OP = 0x8`; `rest` is `w[63:4]` (R98). -/
  | reservedOp8 (rest : BitVec 60)
  /-- A word with the reserved `OP = 0x9`; `rest` is `w[63:4]` (R98). -/
  | reservedOp9 (rest : BitVec 60)
  /-- A word with the reserved `OP = 0xA`; `rest` is `w[63:4]` (R98). -/
  | reservedOpA (rest : BitVec 60)
  /-- A word with the reserved `OP = 0xB`; `rest` is `w[63:4]` (R98). -/
  | reservedOpB (rest : BitVec 60)
  /-- A word with the reserved `OP = 0xC`; `rest` is `w[63:4]` (R98). -/
  | reservedOpC (rest : BitVec 60)
  /-- A word with the reserved `OP = 0xD`; `rest` is `w[63:4]` (R98). -/
  | reservedOpD (rest : BitVec 60)
  /-- A word with the reserved `OP = 0xE`; `rest` is `w[63:4]` (R98). -/
  | reservedOpE (rest : BitVec 60)
  /-- A word with the reserved `OP = 0xF`; `rest` is `w[63:4]` (R98). -/
  | reservedOpF (rest : BitVec 60)
  /-- Byte 1 of an encoded frame with control code STOP; `chk` is its checksum nibble (R93, R101). -/
  | frameCtlStop (chk : Nibble)
  /-- Byte 1 of an encoded frame with control code OPEN; `chk` is its checksum nibble (R93, R101). -/
  | frameCtlOpen (chk : Nibble)
  /-- Byte 1 of an encoded frame with control code CLOSE; `chk` is its checksum nibble (R93, R101). -/
  | frameCtlClose (chk : Nibble)
  /-- Byte 1 of an encoded frame with control code PROGRAM; `chk` is its checksum nibble (R93, R101). -/
  | frameCtlProgram (chk : Nibble)
  /-- The scheduler's step function, fired by the pending continuation (R240). -/
  | step
  /-- The expiry of the wakeup-cooldown timer (R250). -/
  | wakeExpire
  /-- The start of the block (R300). -/
  | reset
deriving DecidableEq, Repr

/-- One thing presented to the block: a host word on the host port (R90), one of the three internal events
(R100), or a byte in the format of byte 1 of an encoded frame (opcode_table.json, format `frame.byte1`), which
no port of the block takes. -/
inductive Input where
  | word (w : HostWord)
  | frameByte (b : Byte)
  | step
  | wakeExpire
  | reset
deriving DecidableEq, Repr, Inhabited

/-- The next transition as the environment chooses it (R252): an operation or event, or an advance of `now`
by a number of microseconds (10_state.md R45). -/
inductive Turn where
  | input (x : Input)
  | advance (micros : Nat)
deriving DecidableEq, Repr, Inhabited

end Sys2Proof
end

