-- ==== Sys2Proof/Config.lean ====
section
/-! DEFINITION. What one instance of the block fixes: the OPEN parameters of 00_scope.md R8 as plain data, the
boot requirements on them that can be checked (70_reset_and_hazards.md R302), and the model's free values
(93_implementation_defined.md, treatment `any value`): constants without a body, so that nothing in Lean can
evaluate them or prove what they are. -/

namespace Sys2Proof

/-- The OPEN parameters of R8. `State.cfg` carries them; no rule writes them (R46). -/
structure Params where
  /-- `P_KEY[0]` to `P_KEY[P_NCH-1]`: the persistence keys, opaque identifiers written as numbers (R60). -/
  keys : List Nat := [0]
  /-- `P_REPEATS`, the source's `configured_repetitions`: 1..255. -/
  repeats : BitVec 8 := 1
  /-- `P_QUEUE_DEPTH`: `none` is `UNBOUNDED`, the default (R221). -/
  queueDepth : Option Nat := none
  /-- `P_T_WAKE_SILENCE` in microseconds (nominal 90000). -/
  wakeSilence : Nat := 90000
  /-- `P_T_IFG` in microseconds (nominal 30000). -/
  ifg : Nat := 30000
  /-- `P_TX_CARRIER` in Hz; 0 is raw on/off keying (R285). -/
  txCarrier : Nat := 0
  /-- `P_STORE_COHERENT` (20_memory.md R64). -/
  storeCoherent : Bool := false
deriving DecidableEq, Repr, Inhabited

/-- `P_NCH`, the number of channel slots: one key per slot. -/
def Params.nch (p : Params) : Nat := p.keys.length

/-- `P_KEY[n]`. -/
def Params.key (p : Params) (n : SlotIx) : Nat := p.keys.getD n.toNat 0

/-- The ranges of R8 and the checkable boot requirements of R302: `P_NCH` in 1..256, the keys pairwise
distinct, `P_REPEATS` in 1..255, a finite `P_QUEUE_DEPTH` positive. -/
def Params.ok (p : Params) : Bool :=
  decide (1 ≤ p.nch) && decide (p.nch ≤ 256) && decide p.keys.Nodup && decide (p.repeats ≠ 0) &&
    decide (p.queueDepth ≠ some 0)

/-- A parameter set a platform may fix (R302). -/
structure ValidParams where
  val : Params := {}
  ok : val.ok = true := by decide
deriving Inhabited

/-- The parameters the platform fixed for the instance (R8, R302): any valid set. -/
opaque Config.params : ValidParams

/-- The transition the environment chooses next, where `State.env` presents none (R252, I8). -/
opaque Config.freeTurn : Nat → Turn

/-- The STORE port's answer to a load (R62, I6). -/
opaque Config.freeLoad : Nat → Option (List Byte)

/-- The STORE port's answer to a save (R63, I6). -/
opaque Config.freeSave : Nat → Bool

/-- The RNG port's answer (10_state.md R52, I4). -/
opaque Config.freeRand : Nat → BitVec 32

/-- The TX port's answer with carrier 0 (R285, I5). -/
opaque Config.freeTx : Nat → Bool

/-- `CH[n].cid` after RESET, unspecified until INIT (R55, I12): of the draw and the slot. -/
opaque Config.resetCid : Nat → Nat → Cid

/-- `CH[n].code` after RESET, unspecified until INIT (R55, I12): of the draw and the slot. -/
opaque Config.resetCode : Nat → Nat → Code

/-- `now` after RESET, any value (R55, I13). -/
opaque Config.resetNow : Nat → Nat

end Sys2Proof
end

