-- ==== Sys2Proof/WellFormed.lean ====
section
/-! DEFINITION. Which operations are well formed for a parameter set: every operand field holds only values its
width allows, so the one check left is the slot index of R97 (`require CH < P_NCH`). The checks on the
parameters themselves are `Params.ok`. -/

namespace Sys2Proof

/-- The slot an operation names in its `CH` field, if it has one (R91, R22). -/
def Instr.slot? : Instr → Option SlotIx
  | .init n => some n
  | .consume n => some n
  | .configNone n => some n
  | .configId n _ => some n
  | .configCode n _ => some n
  | .configIdCode n _ _ => some n
  | .controlStop n => some n
  | .controlOpen n => some n
  | .controlClose n => some n
  | .controlInvalid0 n => some n
  | .controlInvalid3 n => some n
  | .controlInvalid5 n => some n
  | .controlInvalid6 n => some n
  | .controlInvalid7 n => some n
  | .controlInvalid8 n => some n
  | .controlInvalid9 n => some n
  | .controlInvalidA n => some n
  | .controlInvalidB n => some n
  | .controlInvalidC n => some n
  | .controlInvalidD n => some n
  | .controlInvalidE n => some n
  | .controlInvalidF n => some n
  | .program n => some n
  | .encode _ _ _ => none
  | .waveFull _ => none
  | .waveAbbr _ => none
  | .reservedOp0 _ => none
  | .reservedOp8 _ => none
  | .reservedOp9 _ => none
  | .reservedOpA _ => none
  | .reservedOpB _ => none
  | .reservedOpC _ => none
  | .reservedOpD _ => none
  | .reservedOpE _ => none
  | .reservedOpF _ => none
  | .frameCtlStop _ => none
  | .frameCtlOpen _ => none
  | .frameCtlClose _ => none
  | .frameCtlProgram _ => none
  | .step => none
  | .wakeExpire => none
  | .reset => none

/-- R97's `require CH < P_NCH`. -/
def WellFormed (p : Params) (i : Instr) : Bool :=
  match i.slot? with
  | some n => decide (n.toNat < p.nch)
  | none => true

end Sys2Proof
end

