-- ==== Sys2Proof/Decode.lean ====
section
/-! DEFINITION. The decoder of 30_encoding.md R97, total on every 64-bit word and rejecting by name, and after
it the encoder, written from the same field layout (R91). R97's last check, `CH < P_NCH`, depends on the
parameters of the instance and is made where the slot operand is read (Machine/Operands.lean): a word that
decodes here and names a bad slot is refused BAD_SLOT there, as R98 says (log 10). A word with a reserved opcode
decodes to its row of the opcode table, whose meaning is the refusal RESERVED_OPCODE (log 25). -/

namespace Sys2Proof

/-- `OP = w[3:0]` (R91). -/
def opField (w : HostWord) : Nibble := w.extractLsb' 0 4

/-- `SUB = w[7:4]` (R91). -/
def subField (w : HostWord) : Nibble := w.extractLsb' 4 4

/-- `CH = w[15:8]` (R91). -/
def chField (w : HostWord) : SlotIx := w.extractLsb' 8 8

/-- `CODE = w[31:16]` (R91). -/
def codeField (w : HostWord) : Code := w.extractLsb' 16 16

/-- `CID = w[63:32]` (R91). -/
def cidField (w : HostWord) : Cid := w.extractLsb' 32 32

/-- `w[63:4]`: every bit of a word beside `OP`. -/
def restField (w : HostWord) : BitVec 60 := w.extractLsb' 4 60

/-- The frame of BUILD_WAVEFORM: `FB_k = w[8k+15 : 8k+8]` (R91). -/
def frameField (w : HostWord) : Frame :=
  { b0 := w.extractLsb' 8 8, b1 := w.extractLsb' 16 8, b2 := w.extractLsb' 24 8, b3 := w.extractLsb' 32 8,
    b4 := w.extractLsb' 40 8, b5 := w.extractLsb' 48 8, b6 := w.extractLsb' 56 8 }

/-- Why something presented is no operation. -/
inductive DecodeError where
  /-- A failed `require` of R97: the word is refused with this reason (R98). -/
  | refuse (r : RefuseReason)
  /-- A frame byte whose control nibble is none of the four control codes (R93). -/
  | notAControlCode (ctl : Nibble)
deriving DecidableEq, Repr

/-- What the decoder answers. -/
inductive Decoded where
  | instr (i : Instr)
  | reject (e : DecodeError)
deriving DecidableEq, Repr

/-- The operation of a decoder's answer, if it is one. -/
def Decoded.instr? : Decoded → Option Instr
  | .instr i => some i
  | .reject _ => none

/-- R97's `require`: the operation where the unused fields are zero, else refused RESERVED_FIELD (R98). -/
def requireField (c : Bool) (i : Instr) : Decoded :=
  if c then .instr i else .reject (.refuse .reservedField)

/-- The CONTROL operation of a request `SUB` (R94): STOP, OPEN, CLOSE, or a legal word that is no request. -/
def controlOf (sub : Nibble) (n : SlotIx) : Instr :=
  match sub with
  | 0x0#4 => .controlInvalid0 n
  | 0x1#4 => .controlStop n
  | 0x2#4 => .controlOpen n
  | 0x3#4 => .controlInvalid3 n
  | 0x4#4 => .controlClose n
  | 0x5#4 => .controlInvalid5 n
  | 0x6#4 => .controlInvalid6 n
  | 0x7#4 => .controlInvalid7 n
  | 0x8#4 => .controlInvalid8 n
  | 0x9#4 => .controlInvalid9 n
  | 0xA#4 => .controlInvalidA n
  | 0xB#4 => .controlInvalidB n
  | 0xC#4 => .controlInvalidC n
  | 0xD#4 => .controlInvalidD n
  | 0xE#4 => .controlInvalidE n
  | _ => .controlInvalidF n

/-- The CONFIG_CHANNEL operation of the presence flags (R95): `SUB[3:2]` is reserved, and a field whose flag is
0 must be zero (R97). -/
def decodeConfig (w : HostWord) : Decoded :=
  match subField w with
  | 0x0#4 => requireField (cidField w == 0 && codeField w == 0) (.configNone (chField w))
  | 0x1#4 => requireField (codeField w == 0) (.configId (chField w) (cidField w))
  | 0x2#4 => requireField (cidField w == 0) (.configCode (chField w) (codeField w))
  | 0x3#4 => .instr (.configIdCode (chField w) (cidField w) (codeField w))
  | _ => .reject (.refuse .reservedField)

/-- BUILD_WAVEFORM (R91): `w[4]` is the sync mode, `w[7:5]` must be zero (R97). -/
def decodeWave (w : HostWord) : Decoded :=
  match subField w with
  | 0x0#4 => .instr (.waveFull (frameField w))
  | 0x1#4 => .instr (.waveAbbr (frameField w))
  | _ => .reject (.refuse .reservedField)

/-- The decoder of a host word (R97), but for the check `CH < P_NCH`. -/
def decodeWord (w : HostWord) : Decoded :=
  match opField w with
  | 0x0#4 => .instr (.reservedOp0 (restField w))
  | 0x1#4 =>
    requireField (subField w == 0 && codeField w == 0 && cidField w == 0) (.init (chField w))
  | 0x2#4 =>
    requireField (subField w == 0 && codeField w == 0 && cidField w == 0) (.consume (chField w))
  | 0x3#4 => decodeConfig w
  | 0x4#4 => requireField (codeField w == 0 && cidField w == 0) (controlOf (subField w) (chField w))
  | 0x5#4 =>
    requireField (subField w == 0 && codeField w == 0 && cidField w == 0) (.program (chField w))
  | 0x6#4 => requireField (chField w == 0) (.encode (subField w) (cidField w) (codeField w))
  | 0x7#4 => decodeWave w
  | 0x8#4 => .instr (.reservedOp8 (restField w))
  | 0x9#4 => .instr (.reservedOp9 (restField w))
  | 0xA#4 => .instr (.reservedOpA (restField w))
  | 0xB#4 => .instr (.reservedOpB (restField w))
  | 0xC#4 => .instr (.reservedOpC (restField w))
  | 0xD#4 => .instr (.reservedOpD (restField w))
  | 0xE#4 => .instr (.reservedOpE (restField w))
  | _ => .instr (.reservedOpF (restField w))

/-- Byte 1 of an encoded frame: control code in bits 7:4, checksum in bits 3:0 (R93, R101). -/
def decodeFrameByte (b : Byte) : Decoded :=
  let chk : Nibble := b.extractLsb' 0 4
  let ctl : Nibble := b.extractLsb' 4 4
  match ctl with
  | 0x1#4 => .instr (.frameCtlStop chk)
  | 0x2#4 => .instr (.frameCtlOpen chk)
  | 0x4#4 => .instr (.frameCtlClose chk)
  | 0x8#4 => .instr (.frameCtlProgram chk)
  | _ => .reject (.notAControlCode ctl)

/-- The decoder of whatever is presented: a host word, a frame byte or an internal event. -/
def decode : Input → Decoded
  | .word w => decodeWord w
  | .frameByte b => decodeFrameByte b
  | .step => .instr .step
  | .wakeExpire => .instr .wakeExpire
  | .reset => .instr .reset

/-- The host word of its five fields (R91). -/
def hostWord (cid : Cid) (code : Code) (ch : SlotIx) (sub op : Nibble) : HostWord :=
  cid ++ code ++ ch ++ sub ++ op

/-- The host word of BUILD_WAVEFORM (R91). -/
def waveWord (o : Frame) (sub op : Nibble) : HostWord :=
  o.b6 ++ o.b5 ++ o.b4 ++ o.b3 ++ o.b2 ++ o.b1 ++ o.b0 ++ sub ++ op

/-- A host word of its `OP` and its other 60 bits. -/
def reservedWord (rest : BitVec 60) (op : Nibble) : HostWord := rest ++ op

/-- How an operation is presented: its host word (R91 to R96), its frame byte (R101), or the event itself,
which has no encoding (R100). -/
def encode : Instr → Input
  | .init n => .word (hostWord 0 0 n 0x0 0x1)
  | .consume n => .word (hostWord 0 0 n 0x0 0x2)
  | .configNone n => .word (hostWord 0 0 n 0x0 0x3)
  | .configId n a => .word (hostWord a 0 n 0x1 0x3)
  | .configCode n c => .word (hostWord 0 c n 0x2 0x3)
  | .configIdCode n a c => .word (hostWord a c n 0x3 0x3)
  | .controlStop n => .word (hostWord 0 0 n 0x1 0x4)
  | .controlOpen n => .word (hostWord 0 0 n 0x2 0x4)
  | .controlClose n => .word (hostWord 0 0 n 0x4 0x4)
  | .controlInvalid0 n => .word (hostWord 0 0 n 0x0 0x4)
  | .controlInvalid3 n => .word (hostWord 0 0 n 0x3 0x4)
  | .controlInvalid5 n => .word (hostWord 0 0 n 0x5 0x4)
  | .controlInvalid6 n => .word (hostWord 0 0 n 0x6 0x4)
  | .controlInvalid7 n => .word (hostWord 0 0 n 0x7 0x4)
  | .controlInvalid8 n => .word (hostWord 0 0 n 0x8 0x4)
  | .controlInvalid9 n => .word (hostWord 0 0 n 0x9 0x4)
  | .controlInvalidA n => .word (hostWord 0 0 n 0xA 0x4)
  | .controlInvalidB n => .word (hostWord 0 0 n 0xB 0x4)
  | .controlInvalidC n => .word (hostWord 0 0 n 0xC 0x4)
  | .controlInvalidD n => .word (hostWord 0 0 n 0xD 0x4)
  | .controlInvalidE n => .word (hostWord 0 0 n 0xE 0x4)
  | .controlInvalidF n => .word (hostWord 0 0 n 0xF 0x4)
  | .program n => .word (hostWord 0 0 n 0x0 0x5)
  | .encode ctl cid code => .word (hostWord cid code 0 ctl 0x6)
  | .waveFull o => .word (waveWord o 0x0 0x7)
  | .waveAbbr o => .word (waveWord o 0x1 0x7)
  | .reservedOp0 rest => .word (reservedWord rest 0x0)
  | .reservedOp8 rest => .word (reservedWord rest 0x8)
  | .reservedOp9 rest => .word (reservedWord rest 0x9)
  | .reservedOpA rest => .word (reservedWord rest 0xA)
  | .reservedOpB rest => .word (reservedWord rest 0xB)
  | .reservedOpC rest => .word (reservedWord rest 0xC)
  | .reservedOpD rest => .word (reservedWord rest 0xD)
  | .reservedOpE rest => .word (reservedWord rest 0xE)
  | .reservedOpF rest => .word (reservedWord rest 0xF)
  | .frameCtlStop chk => .frameByte ((0x1#4 : Nibble) ++ chk)
  | .frameCtlOpen chk => .frameByte ((0x2#4 : Nibble) ++ chk)
  | .frameCtlClose chk => .frameByte ((0x4#4 : Nibble) ++ chk)
  | .frameCtlProgram chk => .frameByte ((0x8#4 : Nibble) ++ chk)
  | .step => .step
  | .wakeExpire => .wakeExpire
  | .reset => .reset

/-- What an opcode-table word of `nbits` bits presents (log 11). A row of the format `frame.byte1` has one byte,
a row of the format `host64` eight; where the table's mask reaches no further than its first byte, `nbits` is 8
for both, and a byte with a control code (R93) above a zero nibble is then read as a frame byte: as a host word
it would only be one more `OP = 0`. Every other word is a host word whose bits above `nbits` are zero. -/
def inputOfTableWord (nbits w : Nat) : Input :=
  if nbits = 8 ∧ (w = 0x10 ∨ w = 0x20 ∨ w = 0x40 ∨ w = 0x80) then .frameByte (BitVec.ofNat 8 w)
  else .word (BitVec.ofNat 64 w)

/-- The instruction the decoder reads from an opcode-table word (see `inputOfTableWord`). -/
def decodeTableWord (nbits w : Nat) : Option Instr := (decode (inputOfTableWord nbits w)).instr?

end Sys2Proof
end

