-- ==== Sys2Proof/Machine/Constants.lean ====
section
/-! DEFINITION. The fixed parameters of 00_scope.md R8, normative bit-exactly (R9), and the control codes of
30_encoding.md R93. -/

namespace Sys2Proof.Machine

/-- `NONCE`: byte 0 of every frame. -/
def nonce : Byte := 0xA7#8

/-- `SEED_CODE_MASK`: applied to the random seed code. -/
def seedCodeMask : Code := 0x7FFF#16

/-- `SYMBOL`: one Manchester bit period, in microseconds. -/
def symbolPeriod : Nat := 1208

/-- `HALF`: half a symbol. -/
def halfSymbol : Nat := 604

/-- `HW_SYNC`: the mark and the space of one hardware-sync pulse. -/
def hwSync : Nat := 2416

/-- `N_HW_FULL`: hardware-sync pulses in `full` mode. -/
def hwPulsesFull : Nat := 7

/-- `N_HW_ABBR`: hardware-sync pulses in `abbreviated` mode. -/
def hwPulsesAbbreviated : Nat := 2

/-- `SW_SYNC_MARK`. -/
def swSyncMark : Nat := 4550

/-- `SW_SYNC_SPACE`. -/
def swSyncSpace : Nat := 604

/-- `WAKE_MARK`. -/
def wakeMark : Nat := 9415

/-- `T_COOLDOWN`: the wakeup cooldown. -/
def cooldown : Nat := 10000000

/-- `PROGRAM_MAX_REPS`. -/
def programMaxReps : BitVec 8 := 2#8

/-- The control codes STOP, OPEN, CLOSE and PROGRAM (R93). -/
def ctlStop : Nibble := 0x1#4
def ctlOpen : Nibble := 0x2#4
def ctlClose : Nibble := 0x4#4
def ctlProgram : Nibble := 0x8#4

end Sys2Proof.Machine
end

