-- ==== Sys2Proof/Machine/State.lean ====
section
/-! DEFINITION. The state of one block instance as plain data (10_state.md R19): the spec's record, beside it the
parameters and the persistent store, and the model's own fields for what the environment chooses and answers.
Also the events of `TRACE` (R50), the two outcomes that stop a step, and the state after reset (R55). -/

namespace Sys2Proof.Machine

/-- Carrier on (`mark`) or off (`space`) (00_scope.md R14, 30_encoding.md R110). -/
inductive Level where
  | mark
  | space
deriving DecidableEq, Repr, Inhabited

/-- A segment: a level for a number of microseconds (R110). -/
structure Segment where
  level : Level
  dur : Nat
deriving DecidableEq, Repr, Inhabited

/-- The kind of a burst offered on the TX port (00_scope.md R13). -/
inductive BurstKind where
  | wakeup
  | frame
deriving DecidableEq, Repr, Inhabited

/-- The four errors of the taxonomy with their info (60_exceptions.md R271). -/
inductive BlockError where
  /-- `k`: the number of commands discarded (R274). -/
  | configurationError (k : Nat)
  /-- The slot whose save failed (R275). -/
  | persistenceError (n : SlotIx)
  /-- The slot named by a CONFIG_CHANNEL with neither field (R276). -/
  | noopWarning (n : SlotIx)
  /-- The slot and the request of a CONTROL that is no request (R277). -/
  | invalidCommand (n : SlotIx) (sub : Nibble)
deriving DecidableEq, Repr, Inhabited

/-- A log event: an error or one of the four info logs (R272). The payloads are informational only (log 15). -/
inductive LogEntry where
  | error (e : BlockError)
  | freshPair (n : SlotIx)
  | initState (n : SlotIx) (cid : Cid) (next : Code)
  | configId (n : SlotIx) (previous new : Cid)
  | configCode (n : SlotIx) (previous new : Code)
deriving DecidableEq, Repr, Inhabited

/-- The response of a host operation (30_encoding.md R99). -/
inductive Resp where
  /-- INIT and CONFIG_CHANNEL: `(cid, code)`. -/
  | channel (cid : Cid) (code : Code)
  /-- CONSUME: the consumed code. -/
  | code (v : Code)
  /-- CONTROL and SEND_PROGRAM: queued. -/
  | accepted
  /-- CONTROL: InvalidCommand. -/
  | ignored
  /-- ENCODE: the encoded and the obfuscated frame. -/
  | frames (e o : Frame)
  /-- BUILD_WAVEFORM: the raw segment list. -/
  | segments (segs : List Segment)
deriving DecidableEq, Repr, Inhabited

/-- The events of `TRACE` (R50). -/
inductive Event where
  | load (key : Nat) (result : Option (List Byte))
  | save (key : Nat) (r : List Byte) (ok : Bool)
  | rand (v : BitVec 32)
  | tx (kind : BurstKind) (segs : List Segment) (ok : Bool)
  | notify (n : SlotIx) (cid : Cid) (code : Code)
  | log (entry : LogEntry)
  | resp (v : Resp)
deriving DecidableEq, Repr, Inhabited

/-- A channel slot (R20); `code` is the stored code. -/
structure ChanSlot where
  ready : Bool
  cid : Cid
  code : Code
deriving DecidableEq, Repr, Inhabited

/-- A slot at State.reset: not ready (R55); its `cid` and `code`, which the spec leaves unspecified, are 0
(DESIGN CHOICE, unsafe, log 7). -/
def ChanSlot.blank : ChanSlot := { ready := false, cid := 0, code := 0 }

/-- A queue entry (R31): control code, snapshotted channel id and rolling code, repetitions requested and
completed. -/
structure Cmd where
  ctl : Nibble
  cid : Cid
  code : Code
  req : BitVec 8
  done : BitVec 8
deriving DecidableEq, Repr, Inhabited

/-- The pending continuation: `STEP(abbreviated)`, enabled from `due` on (R40). -/
structure Pending where
  due : Nat
  abbreviated : Bool
deriving DecidableEq, Repr, Inhabited

/-- What the environment is going to choose and answer, each list from its head on (log 2): the next transitions
(43_scheduler.md R252) and the answers of the STORE, RNG and TX ports. Where a list is empty the choice or
answer is a free value of Config. -/
structure Env where
  turns : List Turn
  loads : List (Option (List Byte))
  saves : List Bool
  rands : List (BitVec 32)
  txs : List Bool
deriving DecidableEq, Repr, Inhabited

/-- The persistent store: keyed records, keys strictly rising; a key that is not listed has no record
(20_memory.md R60, R64; log 13). -/
abbrev Memory := List (Nat × List Byte)

/-- The canonical form of the store: keys strictly rising, every record whole (6 bytes, R61). -/
abbrev Memory.wf (m : Memory) : Prop :=
  m.Pairwise (fun x y => x.1 < y.1) ∧ ∀ x ∈ m, x.2.length = 6

/-- The state of one instance (R19). -/
structure State where
  /-- The parameters (00_scope.md R8); no rule writes them (R46; log 1). -/
  cfg : Params
  /-- `CH`, the channel state file (R20). -/
  ch : List ChanSlot
  /-- `Q`, the scheduler queue, head first (R30). -/
  q : List Cmd
  /-- `S.needs_wakeup` (R35). -/
  needsWakeup : Bool
  /-- `S.failure_observed` (R36). -/
  failureObserved : Bool
  /-- `S.active`: Idle or Active (R37). -/
  active : Bool
  /-- `PEND` (R40). -/
  pend : Option Pending
  /-- `WT`: the due time of the cooldown timer (R41). -/
  wt : Option Nat
  /-- `now` in microseconds (R45). -/
  now : Nat
  /-- `TRACE`, oldest event first (R50). -/
  trace : List Event
  /-- `REFUSED`, sticky (60_exceptions.md R280). -/
  refused : Bool
  /-- The reason of the latest refusal: the model's own record (log 5). -/
  refusedWith : Option RefuseReason
  /-- What the persistent store holds (20_memory.md R64). -/
  store : Memory
  /-- What the environment chooses and answers next: the model's own (log 2). -/
  env : Env
  /-- How many free values were drawn: the model's own counter (log 23). -/
  draws : Nat
deriving DecidableEq, Repr, Inhabited

/-- The reasons the machine stops with a fault: none. "The block has no fault state and no stuck state"
(60_exceptions.md R281), so no instruction and no event raises one. Safe: there is nothing to raise. -/
inductive Fault where
deriving DecidableEq, Repr

/-- The reasons a step answers no state. (The spec's own refusals, R280, are no stop: they are next states with
`REFUSED` set, log 4.) -/
inductive Refusal where
  /-- Raised by an arm of `exec` whose instruction has no meaning yet; no arm raises it now. Safe: the machine
  stops where the hardware would go on. -/
  | notModelled (mnemonic : String)
  /-- Raised by the four FRAME_CTL rows and by any other frame byte presented as an operation: byte 1 of an
  encoded frame is a value format (30_encoding.md R93, R101), the host port takes 64-bit words only (R90) and
  the only other operations are the three internal events (R100). Safe: nothing is claimed of it (log 12). -/
  | frameByteNotAnOperation
deriving DecidableEq, Repr

/-- The block right after reset with the parameters `p` (R55, 70_reset_and_hazards.md R300). `CH[n].cid`,
`CH[n].code` (log 7) and `now` (log 8), which the spec leaves at any value, are 0 here: DESIGN CHOICE, unsafe.
The store lists nothing (log 14), and the environment presents nothing (log 23). -/
def State.boot (p : Params) : State :=
  { cfg := p
    ch := List.replicate p.nch ChanSlot.blank
    q := []
    needsWakeup := true
    failureObserved := false
    active := false
    pend := none
    wt := none
    now := 0
    trace := []
    refused := false
    refusedWith := none
    store := []
    env := { turns := [], loads := [], saves := [], rands := [], txs := [] }
    draws := 0 }

/-- The machine right after reset (R55), with the parameters the platform fixed. -/
def State.reset : State := State.boot Config.params.val

/-! One update per field; everything that changes a state goes through these. -/

def State.withCh (s : State) (v : List ChanSlot) : State := { s with ch := v }
def State.withQ (s : State) (v : List Cmd) : State := { s with q := v }
def State.withNeedsWakeup (s : State) (v : Bool) : State := { s with needsWakeup := v }
def State.withFailureObserved (s : State) (v : Bool) : State := { s with failureObserved := v }
def State.withActive (s : State) (v : Bool) : State := { s with active := v }
def State.withPend (s : State) (v : Option Pending) : State := { s with pend := v }
def State.withWt (s : State) (v : Option Nat) : State := { s with wt := v }
def State.withNow (s : State) (v : Nat) : State := { s with now := v }
def State.withTrace (s : State) (v : List Event) : State := { s with trace := v }
def State.withRefused (s : State) (v : Bool) : State := { s with refused := v }
def State.withRefusedWith (s : State) (v : Option RefuseReason) : State := { s with refusedWith := v }
def State.withStore (s : State) (v : Memory) : State := { s with store := v }
def State.withEnv (s : State) (v : Env) : State := { s with env := v }
def State.withDraws (s : State) (v : Nat) : State := { s with draws := v }

end Sys2Proof.Machine
end

