-- ==== Sys2Proof/Machine/Ops.lean ====
section
/-! DEFINITION. The shared operations over the state: the channel file (10_state.md R20), the keyed store and its
canonical form (20_memory.md R60), the port primitives of 00_scope.md R13 with their free answers, refusing
(60_exceptions.md R280), raising an error (R270 to R277), and what the environment presents next
(43_scheduler.md R252). -/

namespace Sys2Proof.Machine

/-! ### The channel file -/

/-- `CH[n]` (R20). A slot outside the file is never read: every operation checks the index first (R97). -/
def State.slot (s : State) (n : SlotIx) : ChanSlot := s.ch.getD n.toNat ChanSlot.blank

/-- `CH[n] <- c`; no other slot changes (R22). -/
def State.setSlot (n : SlotIx) (c : ChanSlot) (s : State) : State := s.withCh (s.ch.set n.toNat c)

/-- `CH[n].cid <- a`. -/
def State.setCid (n : SlotIx) (a : Cid) (s : State) : State := s.setSlot n { s.slot n with cid := a }

/-- `CH[n].code <- c`. -/
def State.setCode (n : SlotIx) (c : Code) (s : State) : State := s.setSlot n { s.slot n with code := c }

/-! ### The persistent store -/

/-- The record at a key; `none` where there is none. -/
def Memory.read : Memory → Nat → Option (List Byte)
  | [], _ => none
  | (a, r) :: rest, k => if a = k then some r else Memory.read rest k

/-- A whole record saved at a key (R63, R69), the canonical form kept. -/
def Memory.write : Memory → Nat → List Byte → Memory
  | [], k, r => [(k, r)]
  | (a, x) :: rest, k, r =>
    if k < a then (k, r) :: (a, x) :: rest
    else if k = a then (k, r) :: rest
    else (a, x) :: Memory.write rest k r

/-! ### Output -/

/-- `TRACE` gains one event (R50). -/
def State.emit (e : Event) (s : State) : State := s.withTrace (s.trace ++ [e])

/-- `Log(kind, info)` (R13, R272). -/
def State.log (l : LogEntry) (s : State) : State := s.emit (.log l)

/-- `Respond(v)` (R13, R99). -/
def State.respond (v : Resp) (s : State) : State := s.emit (.resp v)

/-- `Notify(n, cid, code)` with the channel's present values (R133). -/
def State.notify (n : SlotIx) (s : State) : State := s.emit (.notify n (s.slot n).cid (s.slot n).code)

/-- `raise <Error>(info)`: the block's whole exception entry (R270). It emits one LOG event and changes nothing
else; no mode, no vector, no saved state. The state transition that goes with an error stands in the operation
that raises it (R274 to R277), and control goes on there: there is no return (R278). -/
def State.raise (e : BlockError) (s : State) : State := s.log (.error e)

/-- `refuse(reason)`: no state changes, no event, no response; the sticky mark REFUSED is set (R280). The reason
is the model's own record (log 5). -/
def State.refuse (r : RefuseReason) (s : State) : State := (s.withRefused true).withRefusedWith (some r)

/-- The severity of a log kind. -/
inductive Severity where
  | error
  | warning
  | info
deriving DecidableEq, Repr

/-- The code of a log kind (R271, R272). -/
def logCode : LogEntry → Nat
  | .error (.configurationError _) => 1
  | .error (.persistenceError _) => 2
  | .error (.noopWarning _) => 3
  | .error (.invalidCommand _ _) => 4
  | .freshPair _ => 16
  | .initState _ _ _ => 17
  | .configId _ _ _ => 18
  | .configCode _ _ _ => 19

/-- The severity of a log kind (R271, R272). -/
def logSeverity : LogEntry → Severity
  | .error (.configurationError _) => .error
  | .error (.persistenceError _) => .error
  | .error (.noopWarning _) => .warning
  | .error (.invalidCommand _ _) => .warning
  | .freshPair _ => .info
  | .initState _ _ _ => .info
  | .configId _ _ _ => .info
  | .configCode _ _ _ => .info

/-! ### Free answers -/

/-- One more free value was drawn. -/
def State.bumpDraws (s : State) : State := s.withDraws (s.draws + 1)

/-- The transition the environment chooses next (R252). -/
def State.nextTurn (s : State) : Turn :=
  match s.env.turns with
  | t :: _ => t
  | [] => Config.freeTurn s.draws

/-- The chosen transition is used up. -/
def State.popTurn (s : State) : State :=
  match s.env.turns with
  | _ :: rest => s.withEnv { s.env with turns := rest }
  | [] => s.bumpDraws

/-- The environment presents `x` as the very next transition. -/
def State.present (x : Input) (s : State) : State :=
  s.withEnv { s.env with turns := .input x :: s.env.turns }

/-- The free answer of the STORE port to a load (R62). -/
def State.loadReply (s : State) : Option (List Byte) :=
  match s.env.loads with
  | a :: _ => a
  | [] => Config.freeLoad s.draws

def State.popLoad (s : State) : State :=
  match s.env.loads with
  | _ :: rest => s.withEnv { s.env with loads := rest }
  | [] => s.bumpDraws

/-- The free answer of the STORE port to a save (R63). -/
def State.saveReply (s : State) : Bool :=
  match s.env.saves with
  | a :: _ => a
  | [] => Config.freeSave s.draws

def State.popSave (s : State) : State :=
  match s.env.saves with
  | _ :: rest => s.withEnv { s.env with saves := rest }
  | [] => s.bumpDraws

/-- The free answer of the RNG port (10_state.md R52). -/
def State.randReply (s : State) : BitVec 32 :=
  match s.env.rands with
  | a :: _ => a
  | [] => Config.freeRand s.draws

def State.popRand (s : State) : State :=
  match s.env.rands with
  | _ :: rest => s.withEnv { s.env with rands := rest }
  | [] => s.bumpDraws

/-- The free answer of the TX port when the carrier is 0 (R285). -/
def State.freeTxReply (s : State) : Bool :=
  match s.env.txs with
  | a :: _ => a
  | [] => Config.freeTx s.draws

def State.popTx (s : State) : State :=
  match s.env.txs with
  | _ :: rest => s.withEnv { s.env with txs := rest }
  | [] => s.bumpDraws

/-! ### Port primitives (R13) -/

/-- What `MemRead(key, 6)` answers (R62): with P_STORE_COHERENT the record the store holds, else any answer
(R64). -/
def State.memReadResult (key : Nat) (s : State) : Option (List Byte) :=
  if s.cfg.storeCoherent then Memory.read s.store key else s.loadReply

/-- The record of a load that did not fail: `some r` with `len(r) ≠ 6` counts as `none` (R62). -/
def State.loadedRecord (key : Nat) (s : State) : Option (List Byte) :=
  (s.memReadResult key).filter (fun r => r.length == 6)

/-- `MemRead(key, 6)`: emits LOAD; the store is not changed (R62, R69). -/
def State.memRead (key : Nat) (s : State) : State :=
  (if s.cfg.storeCoherent then s else s.popLoad).emit (.load key (s.memReadResult key))

/-- What the store holds after a save that answered `ok`: all or nothing (R63). -/
def State.storeAfter (key : Nat) (r : List Byte) (ok : Bool) (s : State) : Memory :=
  if ok then Memory.write s.store key r else s.store

/-- `MemWrite(key, 6, r)`: emits SAVE with the answer `s.saveReply` (R63). -/
def State.memWrite (key : Nat) (r : List Byte) (s : State) : State :=
  (s.popSave.withStore (s.storeAfter key r s.saveReply)).emit (.save key r s.saveReply)

/-- `Rand32()`: emits RAND with the answer `s.randReply` (10_state.md R52). -/
def State.rand32 (s : State) : State := s.popRand.emit (.rand s.randReply)

/-- What `TxSend` answers: `false` with a carrier, else a free answer (R285). -/
def State.txReply (s : State) : Bool := if s.cfg.txCarrier = 0 then s.freeTxReply else false

/-- `TxSend(kind, segs)`: emits TX with the answer `s.txReply` (R285). -/
def State.txSend (kind : BurstKind) (segs : List Segment) (s : State) : State :=
  (if s.cfg.txCarrier = 0 then s.popTx else s).emit (.tx kind segs s.txReply)

/-- `Schedule(delay, abbrev)` (R13, 10_state.md R40). -/
def State.schedule (delay : Nat) (abbreviated : Bool) (s : State) : State :=
  s.withPend (some { due := s.now + delay, abbreviated := abbreviated })

/-- The environment advances `now` (10_state.md R45). -/
def State.advance (micros : Nat) (s : State) : State := s.withNow (s.now + micros)

end Sys2Proof.Machine
end

