-- ==== Sys2Proof/Machine/Operands.lean ====
section
/-! DEFINITION. The operand forms of the host operations: the slot operand with the checks R97 and R138 make on
it, the optional fields of CONFIG_CHANNEL, and the repetition count of an ENQUEUE. Every other operand is an
immediate taken as it is (30_encoding.md R96). -/

namespace Sys2Proof.Machine

/-- The slot operand of INIT: refused BAD_SLOT outside the file (R97, R98) and REINIT where the slot is ready
(R138), else `done`. -/
def State.guardFresh (s : State) (n : SlotIx) (done : State) : State :=
  if n.toNat < s.cfg.nch then
    if (s.slot n).ready then s.refuse .reinit else done
  else s.refuse .badSlot

/-- The slot operand of every other slot operation: refused BAD_SLOT outside the file (R97, R98) and
NOT_INITIALISED where the slot is not ready (R138), else `done`. -/
def State.guardReady (s : State) (n : SlotIx) (done : State) : State :=
  if n.toNat < s.cfg.nch then
    if (s.slot n).ready then done else s.refuse .notInitialised
  else s.refuse .badSlot

/-- The persistence key of the slot operand (20_memory.md R60). -/
def State.keyOf (n : SlotIx) (s : State) : Nat := s.cfg.key n

/-- An optional new channel id, logged and applied where present (R135). -/
def State.applyCid (n : SlotIx) (a : Option Cid) (s : State) : State :=
  match a with
  | none => s
  | some v => (s.log (.configId n (s.slot n).cid v)).setCid n v

/-- An optional new stored code, logged and applied where present (R135). -/
def State.applyCode (n : SlotIx) (c : Option Code) (s : State) : State :=
  match c with
  | none => s
  | some v => (s.log (.configCode n (s.slot n).code v)).setCode n v

/-- `min(P_REPEATS, maxrep)` (R220). -/
def repetitions (configured maxrep : BitVec 8) : BitVec 8 := if configured ≤ maxrep then configured else maxrep

end Sys2Proof.Machine
end

