-- ==== Sys2Proof/Machine/Channel.lean ====
section
/-! DEFINITION. RollingChannel (40_rolling_channel.md): the rolling-code counter, the persisted record
(20_memory.md R61), and INIT, CONSUME and CONFIG_CHANNEL. -/

namespace Sys2Proof.Machine

/-! ### The counter (R132) -/

/-- `NextCode`: the value the next CONSUME returns; a stored 0 is coerced to 1. -/
def nextCode (c : Code) : Code := if c = 0 then 1 else c

/-- `ConsumeF`: the consumed value and the new stored value, modulo 2^16. -/
def consumeF (c : Code) : Code × Code := (nextCode c, nextCode c + 1)

/-- A seeded code: `b[15:0] & 0x7FFF` (R130, R139). -/
def seedCode (b : BitVec 32) : Code := b.extractLsb' 0 16 &&& seedCodeMask

/-! ### The persisted record (R61): 6 bytes, both fields little-endian -/

def recordOf (cid : Cid) (code : Code) : List Byte :=
  [cid.extractLsb' 0 8, cid.extractLsb' 8 8, cid.extractLsb' 16 8, cid.extractLsb' 24 8,
    code.extractLsb' 0 8, code.extractLsb' 8 8]

/-- `r[i]`. -/
def recordByte (r : List Byte) (i : Nat) : Byte := r.getD i 0

def cidOf (r : List Byte) : Cid :=
  (recordByte r 0).setWidth 32 ||| (recordByte r 1).setWidth 32 <<< 8 |||
    (recordByte r 2).setWidth 32 <<< 16 ||| (recordByte r 3).setWidth 32 <<< 24

def codeOf (r : List Byte) : Code :=
  (recordByte r 4).setWidth 16 ||| (recordByte r 5).setWidth 16 <<< 8

/-! ### INIT (R130) -/

/-- INIT's last part: the slot is ready, the state is logged and answered. -/
def State.finishInit (n : SlotIx) (s : State) : State :=
  let c := s.slot n
  ((s.setSlot n { c with ready := true }).log (.initState n c.cid (nextCode c.code))).respond
    (.channel c.cid c.code)

/-- INIT of a slot whose record was loaded. -/
def State.initLoaded (n : SlotIx) (r : List Byte) (s : State) : State :=
  ((s.setCid n (cidOf r)).setCode n (codeOf r)).finishInit n

/-- INIT of a slot whose load failed: two draws, the channel id first. -/
def State.initSeeded (n : SlotIx) (s : State) : State :=
  let a := s.randReply
  let s1 := s.rand32
  let b := s1.randReply
  ((((s1.rand32).setCid n a).setCode n (seedCode b)).log (.freshPair n)).finishInit n

/-- INIT: neither saves nor notifies. -/
def State.initSlot (n : SlotIx) (s : State) : State :=
  match s.loadedRecord (s.keyOf n) with
  | some r => (s.memRead (s.keyOf n)).initLoaded n r
  | none => (s.memRead (s.keyOf n)).initSeeded n

def execInit (n : SlotIx) (s : State) : Host.Outcome State Fault Refusal :=
  .next (s.guardFresh n (s.initSlot n))

/-! ### CONSUME (R131) -/

/-- A mutated slot is saved and, whatever the save answered, notified with its new values; a failed save raises
PersistenceError in between (R71, R133, R135, 60_exceptions.md R275). -/
def State.persistSlot (n : SlotIx) (s : State) : State :=
  let saved := s.memWrite (s.keyOf n) (recordOf (s.slot n).cid (s.slot n).code)
  (if s.saveReply then saved else saved.raise (.persistenceError n)).notify n

/-- The value a CONSUME of the slot returns. -/
def State.consumedCode (n : SlotIx) (s : State) : Code := (consumeF (s.slot n).code).1

/-- CONSUME without its response: also the first action of ENQUEUE (43_scheduler.md R220). -/
def State.consumeBody (n : SlotIx) (s : State) : State :=
  (s.setCode n (consumeF (s.slot n).code).2).persistSlot n

def execConsume (n : SlotIx) (s : State) : Host.Outcome State Fault Refusal :=
  .next (s.guardReady n ((s.consumeBody n).respond (.code (s.consumedCode n))))

/-! ### CONFIG_CHANNEL (R135) -/

/-- CONFIG_CHANNEL's response: the channel after the call. -/
def State.respondChannel (n : SlotIx) (s : State) : State :=
  s.respond (.channel (s.slot n).cid (s.slot n).code)

/-- With neither field present: NoOpWarning, no change, no save, no notification (60_exceptions.md R276). -/
def State.configNothing (n : SlotIx) (s : State) : State :=
  (s.raise (.noopWarning n)).respondChannel n

/-- With a field present: the id is applied before the code, then one save and one notification. -/
def State.configFields (n : SlotIx) (a : Option Cid) (c : Option Code) (s : State) : State :=
  (((s.applyCid n a).applyCode n c).persistSlot n).respondChannel n

def execConfigNone (n : SlotIx) (s : State) : Host.Outcome State Fault Refusal :=
  .next (s.guardReady n (s.configNothing n))

def execConfigId (n : SlotIx) (a : Cid) (s : State) : Host.Outcome State Fault Refusal :=
  .next (s.guardReady n (s.configFields n (some a) none))

def execConfigCode (n : SlotIx) (c : Code) (s : State) : Host.Outcome State Fault Refusal :=
  .next (s.guardReady n (s.configFields n none (some c)))

def execConfigIdCode (n : SlotIx) (a : Cid) (c : Code) (s : State) : Host.Outcome State Fault Refusal :=
  .next (s.guardReady n (s.configFields n (some a) (some c)))

end Sys2Proof.Machine
end

