-- ==== Sys2Proof/Machine/Flags.lean ====
section
/-! DEFINITION. The scheduler's flags and timers and every rule that sets or clears one: `needs_wakeup`,
`failure_observed`, `active` (10_state.md R35 to R37), `PEND` and `WT` (R40, R41). -/

namespace Sys2Proof.Machine

/-- STEP is enabled exactly when `PEND = some(due, abbrev)` and `now >= due`; it takes `abbrev` from there
(43_scheduler.md R240). -/
def State.stepEnabled (s : State) : Option Bool :=
  match s.pend with
  | some p => if p.due ≤ s.now then some p.abbreviated else none
  | none => none

/-- WAKE_EXPIRE is enabled exactly when `WT = some(due)` and `now >= due` (R250). -/
def State.wakeEnabled (s : State) : Bool :=
  match s.wt with
  | some due => decide (due ≤ s.now)
  | none => false

/-- An ENQUEUE while Idle makes the block Active and schedules the first step; while Active it schedules nothing
(R222). -/
def State.activate (s : State) : State :=
  if s.active then s else (s.withActive true).schedule 0 false

/-- The block goes Idle; nothing is scheduled (R241, R242). -/
def State.goIdle (s : State) : State := s.withActive false

/-- A rejected burst: the failure is observed and the next step follows at once (R243, R245). -/
def State.observeFailure (s : State) : State := (s.withFailureObserved true).schedule 0 false

/-- An accepted wakeup clears `needs_wakeup` and arms the cooldown timer (R243). -/
def State.armCooldown (s : State) : State := (s.withNeedsWakeup false).withWt (some (s.now + cooldown))

/-- The cooldown timer expires (R250). -/
def State.expireCooldown (s : State) : State := (s.withWt none).withNeedsWakeup true

end Sys2Proof.Machine
end

