-- ==== Sys2Proof/Machine/Packet.lean ====
section
/-! DEFINITION. PacketEncoder (41_packet_encoder.md): the encoded frame, its checksum, the obfuscation and its
inverse, the validity a receiver would check, the diagnostic operation ENCODE, and the frame control codes of
the opcode table. -/

namespace Sys2Proof.Machine

/-- The frame before the checksum is inserted (R161 to R163). -/
def frameWithoutChecksum (ctl : Nibble) (cid : Cid) (code : Code) : Frame :=
  { b0 := nonce
    b1 := ctl.setWidth 8 <<< 4
    b2 := code.extractLsb' 8 8
    b3 := code.extractLsb' 0 8
    b4 := cid.extractLsb' 0 8
    b5 := cid.extractLsb' 8 8
    b6 := cid.extractLsb' 16 8 }

/-- A folded byte, `b ^ (b >> 4)` (R164). -/
def foldByte (b : Byte) : Byte := b ^^^ (b >>> 4)

/-- The checksum: the folded bytes XORed together, low nibble (R164). -/
def checksum (e : Frame) : Byte := (e.bytes.foldl (fun chk b => chk ^^^ foldByte b) 0) &&& 0x0F

/-- The encoded frame (R165). -/
def encodeF (ctl : Nibble) (cid : Cid) (code : Code) : Frame :=
  let e := frameWithoutChecksum ctl cid code
  { e with b1 := e.b1 ||| checksum e }

/-- The running XOR chain `o[i] = e[i] ^ o[i-1]` (R166). -/
def obfF (e : Frame) : Frame :=
  let o0 := e.b0
  let o1 := e.b1 ^^^ o0
  let o2 := e.b2 ^^^ o1
  let o3 := e.b3 ^^^ o2
  let o4 := e.b4 ^^^ o3
  let o5 := e.b5 ^^^ o4
  let o6 := e.b6 ^^^ o5
  ⟨o0, o1, o2, o3, o4, o5, o6⟩

/-- The inverse chain `e[i] = o[i] ^ o[i-1]` (R167, 90_conflicts.md C1); no operation of the block. -/
def deobfF (o : Frame) : Frame :=
  ⟨o.b0, o.b1 ^^^ o.b0, o.b2 ^^^ o.b1, o.b3 ^^^ o.b2, o.b4 ^^^ o.b3, o.b5 ^^^ o.b4, o.b6 ^^^ o.b5⟩

/-- The XOR of the 14 nibbles of a frame (R164, R168). -/
def nibbleParity (e : Frame) : Nibble :=
  e.bytes.foldl (fun p b => p ^^^ b.extractLsb' 4 4 ^^^ b.extractLsb' 0 4) 0

/-- `ValidF`: what a receiver would check; the block never does (R169). -/
def validF (o : Frame) : Bool := (deobfF o).b0 == nonce && nibbleParity (deobfF o) == 0

/-- ENCODE: answers both frames; reads and writes no state beside its response (R160). Every `u4` is encoded as
given. -/
def execEncode (ctl : Nibble) (cid : Cid) (code : Code) (s : State) : Host.Outcome State Fault Refusal :=
  .next (s.respond (.frames (encodeF ctl cid code) (obfF (encodeF ctl cid code))))

/-! The frame control codes (R93) are values of byte 1 of an encoded frame (R101), no operation of the block:
the host port takes 64-bit words (R90), and the only other operations are the three internal events (R100). -/

def execFrameCtlStop (_chk : Nibble) (_s : State) : Host.Outcome State Fault Refusal :=
  .refused .frameByteNotAnOperation

def execFrameCtlOpen (_chk : Nibble) (_s : State) : Host.Outcome State Fault Refusal :=
  .refused .frameByteNotAnOperation

def execFrameCtlClose (_chk : Nibble) (_s : State) : Host.Outcome State Fault Refusal :=
  .refused .frameByteNotAnOperation

def execFrameCtlProgram (_chk : Nibble) (_s : State) : Host.Outcome State Fault Refusal :=
  .refused .frameByteNotAnOperation

end Sys2Proof.Machine
end

