-- ==== Sys2Proof/Machine/Waveform.lean ====
section
/-! DEFINITION. WaveformEncoder (42_waveform_encoder.md): the raw segment list of a frame burst, the wakeup
burst, the canonical form and the duration of a burst (30_encoding.md R110 to R112), and the diagnostic
operation BUILD_WAVEFORM. -/

namespace Sys2Proof.Machine

/-- `+d`. -/
def markFor (d : Nat) : Segment := { level := .mark, dur := d }

/-- `-d`. -/
def spaceFor (d : Nat) : Segment := { level := .space, dur := d }

/-- One hardware-sync pulse (R191). -/
def hwPulse : List Segment := [markFor hwSync, spaceFor hwSync]

/-- The number of hardware-sync pulses of a mode (R191). -/
def hwPulses : SyncMode → Nat
  | .full => hwPulsesFull
  | .abbreviated => hwPulsesAbbreviated

/-- The software sync (R192). -/
def swSync : List Segment := [markFor swSyncMark, spaceFor swSyncSpace]

/-- The preamble of a mode: hardware sync, then one software sync (R191, R192). -/
def preamble (mode : SyncMode) : List Segment := (List.replicate (hwPulses mode) hwPulse).flatten ++ swSync

/-- One Manchester bit: 0 is mark then space, 1 is space then mark (R193). -/
def bitSegments (b : Bool) : List Segment :=
  if b then [spaceFor halfSymbol, markFor halfSymbol] else [markFor halfSymbol, spaceFor halfSymbol]

/-- The bits of a byte, most significant first. -/
def byteBits (b : Byte) : List Bool :=
  [b.getLsbD 7, b.getLsbD 6, b.getLsbD 5, b.getLsbD 4, b.getLsbD 3, b.getLsbD 2, b.getLsbD 1, b.getLsbD 0]

/-- The 56 bits on the air: byte 0 first, each most significant bit first (R103). -/
def airBits (o : Frame) : List Bool := o.bytes.flatMap byteBits

/-- `BuildF`: the raw segment list of one frame burst (R190); there is no trailer. -/
def buildF (o : Frame) (mode : SyncMode) : List Segment := preamble mode ++ (airBits o).flatMap bitSegments

/-- `WakeF`: the wakeup burst; its silence is a delay, not a segment (R195). -/
def wakeF : List Segment := [markFor wakeMark]

/-- `Dur`: the duration of a burst (R112). -/
def dur (segs : List Segment) : Nat := (segs.map Segment.dur).sum

/-- The time a burst has the carrier on (R197). -/
def markTime (segs : List Segment) : Nat := dur (segs.filter (fun x => x.level == .mark))

/-- `Canon` with the segment that is being extended in hand. -/
def canonFrom : Segment → List Segment → List Segment
  | cur, [] => [cur]
  | cur, x :: rest =>
    if x.level = cur.level then canonFrom { cur with dur := cur.dur + x.dur } rest
    else cur :: canonFrom x rest

/-- `Canon`: adjacent segments of one level merged (R111). -/
def canon : List Segment → List Segment
  | [] => []
  | x :: rest => canonFrom x rest

/-- BUILD_WAVEFORM in a mode: answers the raw list and changes nothing else (R190). -/
def State.answerWaveform (o : Frame) (mode : SyncMode) (s : State) : State :=
  s.respond (.segments (buildF o mode))

def execWaveFull (o : Frame) (s : State) : Host.Outcome State Fault Refusal :=
  .next (s.answerWaveform o .full)

def execWaveAbbr (o : Frame) (s : State) : Host.Outcome State Fault Refusal :=
  .next (s.answerWaveform o .abbreviated)

end Sys2Proof.Machine
end

