-- ==== Sys2Proof/Machine/Scheduler.lean ====
section
/-! DEFINITION. TransmissionScheduler (43_scheduler.md): ENQUEUE, the host operations CONTROL and SEND_PROGRAM,
and the internal events STEP and WAKE_EXPIRE. -/

namespace Sys2Proof.Machine

/-! ### ENQUEUE (R220 to R222) -/

/-- A finite queue is full (R221). -/
def State.queueFull (s : State) : Bool :=
  match s.cfg.queueDepth with
  | some depth => decide (s.q.length = depth)
  | none => false

/-- The queue entry ENQUEUE builds: the channel id and the consumed code are snapshotted (R31, R220). -/
def State.newCmd (ctl : Nibble) (n : SlotIx) (maxrep : BitVec 8) (s : State) : Cmd :=
  { ctl := ctl, cid := (s.slot n).cid, code := s.consumedCode n, req := repetitions s.cfg.repeats maxrep,
    done := 0 }

/-- ENQUEUE onto a queue that is not full: the code is consumed first, then the entry appended at the tail, then
the scheduler activated where it was Idle. -/
def State.enqueue (ctl : Nibble) (n : SlotIx) (maxrep : BitVec 8) (s : State) : State :=
  let consumed := s.consumeBody n
  (consumed.withQ (consumed.q ++ [s.newCmd ctl n maxrep])).activate

/-- ENQUEUE and the response ACCEPTED; refused QUEUE_FULL before any effect (R221). -/
def State.enqueueOp (ctl : Nibble) (n : SlotIx) (maxrep : BitVec 8) (s : State) : State :=
  if s.queueFull then s.refuse .queueFull else (s.enqueue ctl n maxrep).respond .accepted

/-! ### CONTROL and SEND_PROGRAM (R225, R228) -/

/-- The requests of CONTROL: STOP, OPEN, CLOSE (30_encoding.md R94). -/
def isRequest (sub : Nibble) : Bool := sub == ctlStop || sub == ctlOpen || sub == ctlClose

/-- CONTROL (R225): a request is queued with the full repetition count; anything else is InvalidCommand,
logged and ignored (60_exceptions.md R277). -/
def State.control (n : SlotIx) (sub : Nibble) (s : State) : State :=
  s.guardReady n
    (if isRequest sub then s.enqueueOp sub n s.cfg.repeats
     else (s.raise (.invalidCommand n sub)).respond .ignored)

def execControlStop (n : SlotIx) (s : State) : Host.Outcome State Fault Refusal :=
  .next (s.control n 0x1#4)

def execControlOpen (n : SlotIx) (s : State) : Host.Outcome State Fault Refusal :=
  .next (s.control n 0x2#4)

def execControlClose (n : SlotIx) (s : State) : Host.Outcome State Fault Refusal :=
  .next (s.control n 0x4#4)

def execControlInvalid0 (n : SlotIx) (s : State) : Host.Outcome State Fault Refusal :=
  .next (s.control n 0x0#4)

def execControlInvalid3 (n : SlotIx) (s : State) : Host.Outcome State Fault Refusal :=
  .next (s.control n 0x3#4)

def execControlInvalid5 (n : SlotIx) (s : State) : Host.Outcome State Fault Refusal :=
  .next (s.control n 0x5#4)

def execControlInvalid6 (n : SlotIx) (s : State) : Host.Outcome State Fault Refusal :=
  .next (s.control n 0x6#4)

def execControlInvalid7 (n : SlotIx) (s : State) : Host.Outcome State Fault Refusal :=
  .next (s.control n 0x7#4)

def execControlInvalid8 (n : SlotIx) (s : State) : Host.Outcome State Fault Refusal :=
  .next (s.control n 0x8#4)

def execControlInvalid9 (n : SlotIx) (s : State) : Host.Outcome State Fault Refusal :=
  .next (s.control n 0x9#4)

def execControlInvalidA (n : SlotIx) (s : State) : Host.Outcome State Fault Refusal :=
  .next (s.control n 0xA#4)

def execControlInvalidB (n : SlotIx) (s : State) : Host.Outcome State Fault Refusal :=
  .next (s.control n 0xB#4)

def execControlInvalidC (n : SlotIx) (s : State) : Host.Outcome State Fault Refusal :=
  .next (s.control n 0xC#4)

def execControlInvalidD (n : SlotIx) (s : State) : Host.Outcome State Fault Refusal :=
  .next (s.control n 0xD#4)

def execControlInvalidE (n : SlotIx) (s : State) : Host.Outcome State Fault Refusal :=
  .next (s.control n 0xE#4)

def execControlInvalidF (n : SlotIx) (s : State) : Host.Outcome State Fault Refusal :=
  .next (s.control n 0xF#4)

/-- SEND_PROGRAM (R228): PROGRAM queued with at most two repetitions. -/
def execProgram (n : SlotIx) (s : State) : Host.Outcome State Fault Refusal :=
  .next (s.guardReady n (s.enqueueOp ctlProgram n programMaxReps))

/-! ### STEP (R240 to R246) -/

/-- Case 2: the whole queue is cancelled and ConfigurationError raised once, with the number of commands
discarded (R242, 60_exceptions.md R274). -/
def State.cancelBatch (s : State) : State :=
  ((((s.withQ []).withFailureObserved false).goIdle).raise (.configurationError s.q.length))

/-- Case 3: the wakeup pulse (R243). -/
def State.wakeStep (s : State) : State :=
  let sent := s.txSend .wakeup wakeF
  if s.txReply then sent.armCooldown.schedule (dur wakeF + s.cfg.wakeSilence) true
  else sent.observeFailure

/-- The burst of a command in a mode: encoded, obfuscated, line-coded (R240). -/
def frameBurst (c : Cmd) (mode : SyncMode) : List Segment := buildF (obfF (encodeF c.ctl c.cid c.code)) mode

/-- The sync mode of a STEP's frame (R244). -/
def syncModeOf (abbreviated : Bool) : SyncMode := if abbreviated then .abbreviated else .full

/-- The queue after one more repetition of its head (R246). -/
def afterRepetition (c : Cmd) (rest : List Cmd) : List Cmd :=
  let c' := { c with done := c.done + 1 }
  if c'.req ≤ c'.done then rest else c' :: rest

/-- Case 4: one frame of the command at the head (R244 to R246). -/
def State.frameStep (abbreviated : Bool) (c : Cmd) (rest : List Cmd) (s : State) : State :=
  let segs := frameBurst c (syncModeOf abbreviated)
  let sent := s.txSend .frame segs
  if s.txReply then (sent.withQ (afterRepetition c rest)).schedule (dur segs + s.cfg.ifg) false
  else sent.observeFailure

/-- The body of `STEP(abbrev)`, its four cases in the source's order (R240). -/
def State.schedulerStep (abbreviated : Bool) (s : State) : State :=
  let t := s.withPend none
  match s.q with
  | [] => t.goIdle
  | c :: rest =>
    if s.failureObserved then t.cancelBatch
    else if s.needsWakeup then t.wakeStep
    else t.frameStep abbreviated c rest

/-- STEP: taken where it is enabled; where it is not there is no such transition, and nothing changes
(log 6). -/
def execStep (s : State) : Host.Outcome State Fault Refusal :=
  .next (match s.stepEnabled with
    | some abbreviated => s.schedulerStep abbreviated
    | none => s)

/-! ### WAKE_EXPIRE (R250) -/

/-- WAKE_EXPIRE: taken where it is enabled; where it is not there is no such transition, and nothing changes
(log 6). -/
def execWakeExpire (s : State) : Host.Outcome State Fault Refusal :=
  .next (if s.wakeEnabled then s.expireCooldown else s)

end Sys2Proof.Machine
end

