-- ==== Sys2Proof/Machine/System.lean ====
section
/-! DEFINITION. The reserved opcodes (30_encoding.md R98) and RESET (70_reset_and_hazards.md R300). -/

namespace Sys2Proof.Machine

/-! ### Reserved opcodes: refused RESERVED_OPCODE whatever the other bits (R98, 60_exceptions.md R280) -/

def execReservedOp0 (_rest : BitVec 60) (s : State) : Host.Outcome State Fault Refusal :=
  .next (s.refuse .reservedOpcode)

def execReservedOp8 (_rest : BitVec 60) (s : State) : Host.Outcome State Fault Refusal :=
  .next (s.refuse .reservedOpcode)

def execReservedOp9 (_rest : BitVec 60) (s : State) : Host.Outcome State Fault Refusal :=
  .next (s.refuse .reservedOpcode)

def execReservedOpA (_rest : BitVec 60) (s : State) : Host.Outcome State Fault Refusal :=
  .next (s.refuse .reservedOpcode)

def execReservedOpB (_rest : BitVec 60) (s : State) : Host.Outcome State Fault Refusal :=
  .next (s.refuse .reservedOpcode)

def execReservedOpC (_rest : BitVec 60) (s : State) : Host.Outcome State Fault Refusal :=
  .next (s.refuse .reservedOpcode)

def execReservedOpD (_rest : BitVec 60) (s : State) : Host.Outcome State Fault Refusal :=
  .next (s.refuse .reservedOpcode)

def execReservedOpE (_rest : BitVec 60) (s : State) : Host.Outcome State Fault Refusal :=
  .next (s.refuse .reservedOpcode)

def execReservedOpF (_rest : BitVec 60) (s : State) : Host.Outcome State Fault Refusal :=
  .next (s.refuse .reservedOpcode)

/-! ### RESET -/

/-- The channel file after RESET: `P_NCH` slots, none ready, their contents unspecified until INIT (R55, I12). -/
def freshSlots (nch draw : Nat) : List ChanSlot :=
  (List.range nch).map fun i =>
    { ready := false, cid := Config.resetCid draw i, code := Config.resetCode draw i }

/-- RESET: every element of the block's state takes its reset value (R55, R300). `now` and the slots' contents
are free values (log 9). The parameters, the store (R300, 20_memory.md R64) and what the environment is going
to do are not the block's state and stay (log 24). -/
def State.resetBlock (s : State) : State :=
  { cfg := s.cfg
    ch := freshSlots s.cfg.nch s.draws
    q := []
    needsWakeup := true
    failureObserved := false
    active := false
    pend := none
    wt := none
    now := Config.resetNow s.draws
    trace := []
    refused := false
    refusedWith := none
    store := s.store
    env := s.env
    draws := s.draws + 1 }

def execReset (s : State) : Host.Outcome State Fault Refusal := .next s.resetBlock

end Sys2Proof.Machine
end

