-- ==== Sys2Proof/Machine/Dispatch.lean ====
section
/-! DEFINITION. One arm per constructor of `Instr`: the meaning of each operation of the block. -/

namespace Sys2Proof.Machine

def exec (i : Instr) (s : State) : Host.Outcome State Fault Refusal :=
  match i with
  | .init n => Sys2Proof.Machine.execInit n s
  | .consume n => Sys2Proof.Machine.execConsume n s
  | .configNone n => Sys2Proof.Machine.execConfigNone n s
  | .configId n a => Sys2Proof.Machine.execConfigId n a s
  | .configCode n c => Sys2Proof.Machine.execConfigCode n c s
  | .configIdCode n a c => Sys2Proof.Machine.execConfigIdCode n a c s
  | .controlStop n => Sys2Proof.Machine.execControlStop n s
  | .controlOpen n => Sys2Proof.Machine.execControlOpen n s
  | .controlClose n => Sys2Proof.Machine.execControlClose n s
  | .controlInvalid0 n => Sys2Proof.Machine.execControlInvalid0 n s
  | .controlInvalid3 n => Sys2Proof.Machine.execControlInvalid3 n s
  | .controlInvalid5 n => Sys2Proof.Machine.execControlInvalid5 n s
  | .controlInvalid6 n => Sys2Proof.Machine.execControlInvalid6 n s
  | .controlInvalid7 n => Sys2Proof.Machine.execControlInvalid7 n s
  | .controlInvalid8 n => Sys2Proof.Machine.execControlInvalid8 n s
  | .controlInvalid9 n => Sys2Proof.Machine.execControlInvalid9 n s
  | .controlInvalidA n => Sys2Proof.Machine.execControlInvalidA n s
  | .controlInvalidB n => Sys2Proof.Machine.execControlInvalidB n s
  | .controlInvalidC n => Sys2Proof.Machine.execControlInvalidC n s
  | .controlInvalidD n => Sys2Proof.Machine.execControlInvalidD n s
  | .controlInvalidE n => Sys2Proof.Machine.execControlInvalidE n s
  | .controlInvalidF n => Sys2Proof.Machine.execControlInvalidF n s
  | .program n => Sys2Proof.Machine.execProgram n s
  | .encode ctl cid code => Sys2Proof.Machine.execEncode ctl cid code s
  | .waveFull o => Sys2Proof.Machine.execWaveFull o s
  | .waveAbbr o => Sys2Proof.Machine.execWaveAbbr o s
  | .reservedOp0 rest => Sys2Proof.Machine.execReservedOp0 rest s
  | .reservedOp8 rest => Sys2Proof.Machine.execReservedOp8 rest s
  | .reservedOp9 rest => Sys2Proof.Machine.execReservedOp9 rest s
  | .reservedOpA rest => Sys2Proof.Machine.execReservedOpA rest s
  | .reservedOpB rest => Sys2Proof.Machine.execReservedOpB rest s
  | .reservedOpC rest => Sys2Proof.Machine.execReservedOpC rest s
  | .reservedOpD rest => Sys2Proof.Machine.execReservedOpD rest s
  | .reservedOpE rest => Sys2Proof.Machine.execReservedOpE rest s
  | .reservedOpF rest => Sys2Proof.Machine.execReservedOpF rest s
  | .frameCtlStop chk => Sys2Proof.Machine.execFrameCtlStop chk s
  | .frameCtlOpen chk => Sys2Proof.Machine.execFrameCtlOpen chk s
  | .frameCtlClose chk => Sys2Proof.Machine.execFrameCtlClose chk s
  | .frameCtlProgram chk => Sys2Proof.Machine.execFrameCtlProgram chk s
  | .step => Sys2Proof.Machine.execStep s
  | .wakeExpire => Sys2Proof.Machine.execWakeExpire s
  | .reset => Sys2Proof.Machine.execReset s

end Sys2Proof.Machine
end

