-- ==== Sys2Proof/Machine/Fetch.lean ====
section
/-! DEFINITION. How the next transition comes to run: what the environment presents is decoded and performed
(30_encoding.md R90, R97, R100; 43_scheduler.md R252). -/

namespace Sys2Proof.Machine

/-- What is presented is decoded and performed. A word that fails a `require` of R97 is refused with its reason
(R98); a frame byte is no operation. -/
def runInput (x : Input) (s : State) : Host.Outcome State Fault Refusal :=
  match decode x with
  | .instr i => exec i s
  | .reject (.refuse r) => .next (s.refuse r)
  | .reject (.notAControlCode _) => .refused .frameByteNotAnOperation

/-- One transition as the environment chose it (R252). -/
def runTurn (t : Turn) (s : State) : Host.Outcome State Fault Refusal :=
  match t with
  | .input x => runInput x s
  | .advance micros => .next (s.advance micros)

end Sys2Proof.Machine
end

