-- ==== Sys2Proof/Machine/Step.lean ====
section
/-! DEFINITION. One step of the machine: one atomic transition, the one the environment chooses next
(20_memory.md R70, 43_scheduler.md R252). -/

namespace Sys2Proof.Machine

/-- One transition. -/
def step (s : State) : Host.Outcome State Fault Refusal := runTurn s.nextTurn s.popTurn

/-- `s` with the opcode-table word presented as the very next transition (log 3, log 11). -/
def State.withFetchWord (s : State) (nbits w : Nat) : State := s.present (inputOfTableWord nbits w)

end Sys2Proof.Machine
end

