-- ==== Sys2Proof/Safety.lean ====
section
/-! DEFINITION. What claims speak of: the invariants the spec states of every reachable state (10_state.md R38,
R39, R42; 43_scheduler.md R255), the end of a run (60_exceptions.md R280, R282), and the vocabulary of frames:
what an operation leaves unchanged. -/

namespace Sys2Proof.Machine

/-! ### State invariants -/

/-- One of the four control codes: "the only control codes the block ever queues or transmits" (30_encoding.md
R93). -/
def isControlCode (ctl : Nibble) : Bool :=
  ctl == ctlStop || ctl == ctlOpen || ctl == ctlClose || ctl == ctlProgram

/-- What R31 and R93 say of an entry while it is in `Q`: a control code, a code that is never 0,
`1 <= req <= 255` and `0 <= done < req`. -/
def cmdOk (c : Cmd) : Bool :=
  isControlCode c.ctl && c.code != 0 && decide (1 ≤ c.req.toNat) && decide (c.done.toNat < c.req.toNat)

/-- R8, R302, R20: valid parameters, one slot per key. -/
abbrev SlotsOk (s : State) : Prop := s.cfg.ok = true ∧ s.ch.length = s.cfg.nch

/-- R30, R31: every entry is well formed, and a finite capacity is not exceeded. -/
abbrev QueueOk (s : State) : Prop :=
  (∀ c ∈ s.q, cmdOk c = true) ∧ ∀ depth ∈ s.cfg.queueDepth, s.q.length ≤ depth

/-- R38: Active exactly while a continuation is pending; Idle only with an empty queue. -/
abbrev ActiveIffPending (s : State) : Prop :=
  (s.active = true ↔ s.pend ≠ none) ∧ (s.active = false → s.q = [])

/-- R39: an observed failure is pending cancellation. -/
abbrev FailureHasBatch (s : State) : Prop := s.failureObserved = true → s.q ≠ [] ∧ s.pend ≠ none

/-- R42: the cooldown timer is armed exactly while `needs_wakeup` is false. -/
abbrev CooldownIffAwake (s : State) : Prop :=
  (s.wt ≠ none → s.needsWakeup = false) ∧ (s.needsWakeup = false → s.wt ≠ none)

/-- The invariant of the block: what holds between any two transitions. The rising keys of the store (log 13) and
the last conjunct, the record of a refusal's reason (log 5), are the model's own. -/
abbrev Inv (s : State) : Prop :=
  SlotsOk s ∧ QueueOk s ∧ ActiveIffPending s ∧ FailureHasBatch s ∧ CooldownIffAwake s ∧ Memory.wf s.store ∧
    s.refused = s.refusedWith.isSome

/-! ### The trace -/

/-- A burst offered on the TX port and whether it was accepted. -/
def burstOf : Event → Option (BurstKind × Bool)
  | .tx kind _ ok => some (kind, ok)
  | _ => none

/-- The bursts offered, in order. -/
def bursts (t : List Event) : List (BurstKind × Bool) := t.filterMap burstOf

/-- The bursts put on the air, in order: "Only `TX` events with `ok = true` put energy on the air" (R50). -/
def acceptedBursts (t : List Event) : List (BurstKind × Bool) := (bursts t).filter (fun b => b.2)

/-- The burst offered last. -/
def lastBurst (t : List Event) : Option (BurstKind × Bool) := (bursts t).getLast?

/-- A response (30_encoding.md R99). -/
def isResponse : Event → Bool
  | .resp _ => true
  | _ => false

/-- What raises one of the four errors, or detects one: an error's log (60_exceptions.md R271) or a rejected
burst (R274). -/
def isErrorOrRejection : Event → Bool
  | .log (.error _) => true
  | .tx _ _ ok => !ok
  | _ => false

/-- R255(h): the first accepted burst is a WAKEUP, and while there is none a wakeup is needed. -/
abbrev WakeupFirst (s : State) : Prop :=
  (acceptedBursts s.trace).head? ≠ some (.frame, true) ∧
    (acceptedBursts s.trace = [] → s.needsWakeup = true)

/-- R255(f) of the events so far: a FRAME burst is `abbreviated` exactly where the burst before it was an
accepted WAKEUP, else `full`. -/
def FramesFollowWakeups (t : List Event) : Prop :=
  ∀ before segs ok after, t = before ++ Event.tx .frame segs ok :: after →
    ∃ o, segs = buildF o (if lastBurst before = some (.wakeup, true) then .abbreviated else .full)

/-- R244 of the pending continuation: `abbrev` exactly where the last burst was an accepted WAKEUP, whose
command is still queued. -/
abbrev AbbrevFollowsWakeup (s : State) : Prop :=
  (∀ p ∈ s.pend, s.failureObserved = false →
      (p.abbreviated = true ↔ lastBurst s.trace = some (.wakeup, true)) ∧ (p.abbreviated = true → s.q ≠ [])) ∧
    (s.pend = none ∨ s.failureObserved = true → lastBurst s.trace ≠ some (.wakeup, true))

/-! ### The end of a run (R282) -/

/-- The host offers a word among the transitions presented. -/
def offersWord (s : State) : Bool :=
  s.env.turns.any fun t => match t with
    | .input (.word _) => true
    | _ => false

/-- Quiescent: Idle, nothing pending, nothing queued, and no host operation offered. -/
def quiescent (s : State) : Bool := !s.active && s.pend.isNone && s.q.isEmpty && !offersWord s

/-- A final state a claim may be about: quiescent with `REFUSED = false` (R280, R282). -/
def finalState (s : State) : Bool := quiescent s && !s.refused

/-! ### Frames -/

/-- The parameters, `now` and the refusal mark are unchanged. -/
def SameMarks (s t : State) : Prop :=
  t.cfg = s.cfg ∧ t.now = s.now ∧ t.refused = s.refused ∧ t.refusedWith = s.refusedWith

/-- The queue, the three flags and both timers are unchanged. -/
def SameScheduler (s t : State) : Prop :=
  t.q = s.q ∧ t.needsWakeup = s.needsWakeup ∧ t.failureObserved = s.failureObserved ∧
    t.active = s.active ∧ t.pend = s.pend ∧ t.wt = s.wt

/-- Every channel slot but `n` is unchanged (R22). -/
def OtherSlotsSame (n : SlotIx) (s t : State) : Prop :=
  t.ch.length = s.ch.length ∧ ∀ m : SlotIx, m ≠ n → t.slot m = s.slot m

/-- Every record of the store is unchanged. -/
def StoreSame (s t : State) : Prop := ∀ k, Memory.read t.store k = Memory.read s.store k

/-- The record saved at the key of slot `n` is stored where the save succeeded; every other record, and this one
too where it failed, is unchanged (R63). -/
def StoreSaved (n : SlotIx) (r : List Byte) (ok : Bool) (s t : State) : Prop :=
  Memory.read t.store (s.keyOf n) = (if ok then some r else Memory.read s.store (s.keyOf n)) ∧
    ∀ k, k ≠ s.keyOf n → Memory.read t.store k = Memory.read s.store k

/-- The events of a save, its possible error and the notification (R71, R131, R135). -/
def savedEvents (n : SlotIx) (key : Nat) (cid : Cid) (code : Code) (ok : Bool) : List Event :=
  [.save key (recordOf cid code) ok] ++ (if ok then [] else [.log (.error (.persistenceError n))]) ++
    [.notify n cid code]

/-- What an accepted ENQUEUE of a control code with `req` repetitions does, and leaves unchanged (R220, R222):
the slot's counter advances and is saved, the entry snapshots the channel id and the consumed code. -/
def Enqueued (ctl : Nibble) (n : SlotIx) (req : BitVec 8) (s t : State) : Prop :=
  let c := s.slot n
  let v := if c.code = 0 then 1 else c.code
  t.q = s.q ++ [{ ctl := ctl, cid := c.cid, code := v, req := req, done := 0 }] ∧
    t.slot n = { c with code := v + 1 } ∧ OtherSlotsSame n s t ∧
    t.trace = s.trace ++ savedEvents n (s.keyOf n) c.cid (v + 1) s.saveReply ++ [.resp .accepted] ∧
    StoreSaved n (recordOf c.cid (v + 1)) s.saveReply s t ∧ SameMarks s t ∧
    t.active = true ∧ t.pend = (if s.active then s.pend else some { due := s.now, abbreviated := false }) ∧
    t.needsWakeup = s.needsWakeup ∧ t.failureObserved = s.failureObserved ∧ t.wt = s.wt

/-- What CONFIG_CHANNEL with a present field does, and leaves unchanged (R135): the id before the code, then one
save and one notification. -/
def Configured (n : SlotIx) (a : Option Cid) (c : Option Code) (s t : State) : Prop :=
  let old := s.slot n
  let cid := a.getD old.cid
  let code := c.getD old.code
  t.slot n = { old with cid := cid, code := code } ∧ OtherSlotsSame n s t ∧
    t.trace = s.trace ++ (a.toList.map fun v => .log (.configId n old.cid v)) ++
      (c.toList.map fun v => .log (.configCode n old.code v)) ++
      savedEvents n (s.keyOf n) cid code s.saveReply ++ [.resp (.channel cid code)] ∧
    StoreSaved n (recordOf cid code) s.saveReply s t ∧ SameMarks s t ∧ SameScheduler s t

/-- What R55 gives every element of the block's state after reset, with the parameters `p`. -/
def AtReset (p : Params) (t : State) : Prop :=
  t.q = [] ∧ t.needsWakeup = true ∧ t.failureObserved = false ∧ t.active = false ∧ t.pend = none ∧
    t.wt = none ∧ t.ch.length = p.nch ∧ (∀ c ∈ t.ch, c.ready = false) ∧ t.trace = [] ∧ t.refused = false

/-- The repetitions a command still has to come. -/
def remaining (c : Cmd) : Nat := c.req.toNat - c.done.toNat

/-- The repetitions the whole queue still has to come. -/
def remainingAll (q : List Cmd) : Nat := (q.map remaining).sum

/-- The FRAME events of a queue sent to its end without a wakeup in between: in the order of the queue, every
command as often as it has repetitions left, all alike (R255(b), (c)). -/
def framesOf (q : List Cmd) : List Event :=
  q.flatMap fun c => List.replicate (remaining c) (.tx .frame (frameBurst c .full) true)

/-- The responses in a trace. -/
def responsesOf (t : List Event) : List Resp :=
  t.filterMap fun e => match e with
    | .resp v => some v
    | _ => none

end Sys2Proof.Machine
end

