-- ==== Sys2Proof/Certificates/Slice0/Obligations.lean ====
section
/-! DEFINITION. The statements for the provers, one per numbered rule or group of rules of spec/. -/

open Sys2Proof Sys2Proof.Machine

/-! ### Encoding (30_encoding.md) -/

/-- Decoding the presented form of an operation gives the operation back, every operand at every value. That
words with a bad slot index or a reserved opcode decode, and are refused after that, is the model's choice (log 10,
log 25). -/
def Obligations.DecodeOfEncode : Prop := ∀ i : Instr, decode (encode i) = .instr i

/-- Whatever decodes to an operation is that operation's presented form: every legal word has one meaning, and
no bit of it is ignored. That words with a bad slot index or a reserved opcode decode, and are refused after that,
is the model's choice (log 10, log 25). -/
def Obligations.EncodeOfDecode : Prop :=
  ∀ (x : Input) (i : Instr), decode x = .instr i → encode i = x

/-- The example words of R117 decode as R117 says. -/
def Obligations.ExampleWordsDecode : Prop :=
  decodeTableWord 64 0x0000000000000001 = some (.init 0) ∧
  decodeTableWord 64 0x0000000000000101 = some (.init 1) ∧
  decodeTableWord 64 0x0000000000000002 = some (.consume 0) ∧
  decodeTableWord 64 0x0000000000000024 = some (.controlOpen 0) ∧
  decodeTableWord 64 0x0000000000000014 = some (.controlStop 0) ∧
  decodeTableWord 64 0x0000000000000044 = some (.controlClose 0) ∧
  decodeTableWord 64 0x0000000000000105 = some (.program 1) ∧
  decodeTableWord 64 0x00000000FFFF0023 = some (.configCode 0 0xFFFF) ∧
  decodeTableWord 64 0x0001020300050033 = some (.configIdCode 0 0x00010203 5) ∧
  decodeTableWord 64 0x0001020300050026 = some (.encode 0x2 0x00010203 5) ∧
  decodeTableWord 64 0x88898B888D8DA717 = some (.waveAbbr ⟨0xA7, 0x8D, 0x8D, 0x88, 0x8B, 0x89, 0x88⟩)

/-- R97's `require`s on the fields: which words fail one, by arithmetic on the word (R97, R98). The second clause,
that the decoder rejects no word for anything else, is the model's choice: R97 refuses BAD_SLOT in the decoder as
well, which the model does where the slot operand is read (log 10, `SlotOperandsChecked`), and RESERVED_OPCODE,
which the model decodes as the RESERVED_OP rows of the opcode table, whose meaning is that refusal (log 25,
`ReservedOpcodesAreRefused`). -/
def Obligations.RejectedWordsAreThoseOfR97 : Prop :=
  ∀ w : HostWord,
    let op := w.toNat % 16
    let sub := w.toNat / 2 ^ 4 % 16
    let ch := w.toNat / 2 ^ 8 % 256
    let code := w.toNat / 2 ^ 16 % 65536
    let cid := w.toNat / 2 ^ 32
    (decodeWord w = .reject (.refuse .reservedField) ↔
      (op = 1 ∨ op = 2 ∨ op = 5) ∧ ¬ (sub = 0 ∧ code = 0 ∧ cid = 0) ∨
      op = 3 ∧ ¬ (sub < 4 ∧ (sub % 2 = 1 ∨ cid = 0) ∧ (sub / 2 % 2 = 1 ∨ code = 0)) ∨
      op = 4 ∧ ¬ (code = 0 ∧ cid = 0) ∨
      op = 6 ∧ ch ≠ 0 ∨
      op = 7 ∧ 2 ≤ sub) ∧
    ∀ e, decodeWord w = .reject e → e = .refuse .reservedField

/-- Byte 1 of the encoded frame of each control code is that code's row of the opcode table, with the checksum
as its low nibble (R93, R101). -/
def Obligations.FrameByteOneIsItsControlRow : Prop :=
  ∀ (cid : Cid) (code : Code),
    decodeFrameByte (encodeF 0x1 cid code).b1 =
      .instr (.frameCtlStop ((encodeF 0x1 cid code).b1.extractLsb' 0 4)) ∧
    decodeFrameByte (encodeF 0x2 cid code).b1 =
      .instr (.frameCtlOpen ((encodeF 0x2 cid code).b1.extractLsb' 0 4)) ∧
    decodeFrameByte (encodeF 0x4 cid code).b1 =
      .instr (.frameCtlClose ((encodeF 0x4 cid code).b1.extractLsb' 0 4)) ∧
    decodeFrameByte (encodeF 0x8 cid code).b1 =
      .instr (.frameCtlProgram ((encodeF 0x8 cid code).b1.extractLsb' 0 4))

/-! ### One step -/

/-- A step performs the operation the presented input decodes to, on the state with that input taken up. -/
def Obligations.StepRunsDecodedOperation : Prop :=
  ∀ (s : State) (x : Input) (i : Instr), s.nextTurn = .input x → decode x = .instr i →
    step s = exec i s.popTurn

/-- A word of the opcode table placed with `withFetchWord` is what the very next step runs. -/
def Obligations.PlacedWordRunsNext : Prop :=
  ∀ (s : State) (nbits w : Nat) (i : Instr), decodeTableWord nbits w = some i →
    step (s.withFetchWord nbits w) = exec i s

/-- An advance of `now` by the environment changes `now` and nothing else of the block (R45, R252). -/
def Obligations.EnvironmentAdvancesNow : Prop :=
  ∀ (s : State) (d : Nat), s.nextTurn = .advance d →
    ∃ t, step s = .next t ∧ t.now = s.now + d ∧ s.now ≤ t.now ∧ t.cfg = s.cfg ∧ t.ch = s.ch ∧
      SameScheduler s t ∧ t.trace = s.trace ∧ t.refused = s.refused ∧ t.store = s.store

/-- A word that fails a `require` of R97 is refused with its reason: no state changes, no event, the mark is
set (R98, R280). That a refusal is a next state is the model's choice (log 4, log 5). -/
def Obligations.IllegalWordIsRefused : Prop :=
  ∀ (s : State) (w : HostWord) (r : RefuseReason), s.nextTurn = .input (.word w) →
    decodeWord w = .reject (.refuse r) →
    step s = .next { s.popTurn with refused := true, refusedWith := some r }

/-! ### The persistent store (20_memory.md) -/

/-- The persisted record, by arithmetic: six bytes, the channel id little-endian in the first four, the stored
code little-endian in the last two; what is read from six bytes is the same layout (R61). -/
def Obligations.PersistedRecordLayout : Prop :=
  (∀ (cid : Cid) (code : Code),
    (recordOf cid code).length = 6 ∧
    (∀ i, i < 4 → ((recordOf cid code).getD i 0).toNat = cid.toNat / 256 ^ i % 256) ∧
    ((recordOf cid code).getD 4 0).toNat = code.toNat % 256 ∧
    ((recordOf cid code).getD 5 0).toNat = code.toNat / 256) ∧
  ∀ b0 b1 b2 b3 b4 b5 : Byte,
    (cidOf [b0, b1, b2, b3, b4, b5]).toNat =
      b0.toNat + 256 * b1.toNat + 256 ^ 2 * b2.toNat + 256 ^ 3 * b3.toNat ∧
    (codeOf [b0, b1, b2, b3, b4, b5]).toNat = b4.toNat + 256 * b5.toNat

/-- The STORE port. A load emits LOAD and leaves the store; with P_STORE_COHERENT it answers what the store
holds, else what the environment answers next (R62, R64). A save answers what the environment answers next, emits
SAVE with it, and writes the whole record where the answer is `true`, nothing where it is `false` (R63). That
answers come from lists in the state and that the store's contents are held in the state are the model's choices
(log 2, log 13). -/
def Obligations.StorePortAnswers : Prop :=
  ∀ (s : State) (key : Nat),
    (s.memRead key).trace = s.trace ++ [.load key (s.memReadResult key)] ∧
    (s.memRead key).store = s.store ∧
    (s.cfg.storeCoherent = true → s.memReadResult key = Memory.read s.store key) ∧
    (∀ a rest, s.cfg.storeCoherent = false → s.env.loads = a :: rest →
      s.memReadResult key = a ∧ (s.memRead key).env.loads = rest) ∧
    ∀ ok rest r, s.env.saves = ok :: rest →
      s.saveReply = ok ∧ (s.memWrite key r).env.saves = rest ∧
      (s.memWrite key r).trace = s.trace ++ [.save key r ok] ∧
      ∀ k, Memory.read (s.memWrite key r).store k =
        if ok = true ∧ k = key then some r else Memory.read s.store k

/-! ### RollingChannel (40_rolling_channel.md) -/

/-- INIT of a slot whose load answers a record of six bytes: the slot takes the channel id and the stored code
the bytes give, both little-endian; nothing is saved or notified (R130, R61, R62). -/
def Obligations.InitLoadsRecord : Prop :=
  ∀ (s : State) (n : SlotIx) (b0 b1 b2 b3 b4 b5 : Byte), SlotsOk s → n.toNat < s.cfg.nch →
    (s.slot n).ready = false → s.memReadResult (s.keyOf n) = some [b0, b1, b2, b3, b4, b5] →
    ∃ (cid : Cid) (code : Code) (t : State), exec (.init n) s = .next t ∧
      cid.toNat = b0.toNat + 256 * b1.toNat + 256 ^ 2 * b2.toNat + 256 ^ 3 * b3.toNat ∧
      code.toNat = b4.toNat + 256 * b5.toNat ∧
      t.slot n = { ready := true, cid := cid, code := code } ∧
      t.trace = s.trace ++ [.load (s.keyOf n) (some [b0, b1, b2, b3, b4, b5]),
        .log (.initState n cid (if code = 0 then 1 else code)), .resp (.channel cid code)] ∧
      OtherSlotsSame n s t ∧ StoreSame s t ∧ SameMarks s t ∧ SameScheduler s t

/-- INIT of a slot whose load fails (no record, or one of a wrong length): two free draws, the channel id
first, the code masked to 15 bits (R130, R139, R62). The answers are the environment's list where it gives two,
else free values (log 2). -/
def Obligations.InitSeedsSlot : Prop :=
  ∀ (s : State) (n : SlotIx), SlotsOk s → n.toNat < s.cfg.nch → (s.slot n).ready = false →
    (∀ r ∈ s.memReadResult (s.keyOf n), r.length ≠ 6) →
    ∃ (a b : BitVec 32) (code : Code) (t : State), exec (.init n) s = .next t ∧
      (∀ x y rest, s.env.rands = x :: y :: rest → a = x ∧ b = y) ∧
      code.toNat = b.toNat % 0x8000 ∧ t.slot n = { ready := true, cid := a, code := code } ∧
      t.trace = s.trace ++ [.load (s.keyOf n) (s.memReadResult (s.keyOf n)), .rand a, .rand b,
        .log (.freshPair n), .log (.initState n a (if code = 0 then 1 else code)), .resp (.channel a code)] ∧
      OtherSlotsSame n s t ∧ StoreSame s t ∧ SameMarks s t ∧ SameScheduler s t

/-- The slot operand's checks: a slot outside the file is BAD_SLOT for every operation that names one (R97,
R98); a ready slot is REINIT for INIT and a slot that is not ready is NOT_INITIALISED for every other one
(R138). Each changes nothing but the refusal mark. That a refusal is a next state with the reason recorded is the
model's choice (log 4, log 5). -/
def Obligations.SlotOperandsChecked : Prop :=
  ∀ (s : State) (i : Instr) (n : SlotIx), i.slot? = some n →
    (s.cfg.nch ≤ n.toNat →
      exec i s = .next { s with refused := true, refusedWith := some .badSlot }) ∧
    (n.toNat < s.cfg.nch → i = .init n → (s.slot n).ready = true →
      exec i s = .next { s with refused := true, refusedWith := some .reinit }) ∧
    (n.toNat < s.cfg.nch → i ≠ .init n → (s.slot n).ready = false →
      exec i s = .next { s with refused := true, refusedWith := some .notInitialised })

/-- CONSUME returns the stored code (0 read as 1), stores its successor modulo 2^16, saves it and notifies with
the new values whatever the save answered, then responds (R131, R132, R133, R275, R71). -/
def Obligations.ConsumeAdvancesCounter : Prop :=
  ∀ (s : State) (n : SlotIx), SlotsOk s → n.toNat < s.cfg.nch → (s.slot n).ready = true →
    let c := s.slot n
    let v := if c.code = 0 then 1 else c.code
    ∃ t, exec (.consume n) s = .next t ∧ t.slot n = { c with code := v + 1 } ∧
      t.trace = s.trace ++ savedEvents n (s.keyOf n) c.cid (v + 1) s.saveReply ++ [.resp (.code v)] ∧
      StoreSaved n (recordOf c.cid (v + 1)) s.saveReply s t ∧
      OtherSlotsSame n s t ∧ SameMarks s t ∧ SameScheduler s t

/-- CONFIG_CHANNEL with a field present: presence decides, the id before the code, one save and one
notification (R135, C6). The queue keeps its snapshots (R32). -/
def Obligations.ConfigAppliesPresentFields : Prop :=
  ∀ (s : State) (n : SlotIx) (a : Cid) (c : Code), SlotsOk s → n.toNat < s.cfg.nch →
    (s.slot n).ready = true →
    (∃ t, exec (.configId n a) s = .next t ∧ Configured n (some a) none s t) ∧
    (∃ t, exec (.configCode n c) s = .next t ∧ Configured n none (some c) s t) ∧
    (∃ t, exec (.configIdCode n a c) s = .next t ∧ Configured n (some a) (some c) s t)

/-- CONFIG_CHANNEL with neither field: one warning and the response, nothing else (R276, R135). -/
def Obligations.ConfigNothingWarns : Prop :=
  ∀ (s : State) (n : SlotIx), n.toNat < s.cfg.nch → (s.slot n).ready = true →
    exec (.configNone n) s = .next { s with
      trace := s.trace ++ [.log (.error (.noopWarning n)), .resp (.channel (s.slot n).cid (s.slot n).code)] }

/-- `k` CONSUMEs of one slot in a row return the codes from the stored one on, counting modulo 2^16 with 0
skipped (R134): the returned values have period 65535 and are never 0. -/
def Obligations.ConsumedCodesSkipZero : Prop :=
  ∀ (k : Nat) (s : State) (n : SlotIx) (rest : List Turn), SlotsOk s → n.toNat < s.cfg.nch →
    (s.slot n).ready = true →
    s.env.turns = List.replicate k (.input (encode (.consume n))) ++ rest →
    ∃ t, core.run k s = .next t ∧
      responsesOf t.trace = responsesOf s.trace ++ (List.range k).map fun j =>
        .code (BitVec.ofNat 16 (((if (s.slot n).code = 0 then 1 else (s.slot n).code).toNat - 1 + j) % 65535 + 1))

/-! ### PacketEncoder (41_packet_encoder.md) -/

/-- ENCODE answers the encoded and the obfuscated frame and changes nothing else, for every `u4` control value
(R160). -/
def Obligations.EncodeAnswersBothFrames : Prop :=
  ∀ (s : State) (ctl : Nibble) (cid : Cid) (code : Code),
    exec (.encode ctl cid code) s = .next { s with
      trace := s.trace ++ [.resp (.frames (encodeF ctl cid code) (obfF (encodeF ctl cid code)))] }

/-- The fields of the encoded frame, by arithmetic on the operands: the nonce, the control code in the high
nibble of byte 1, the code big-endian, the channel id little-endian, its bits above 24 without effect (R161,
R162, R163, R101). -/
def Obligations.EncodedFrameFields : Prop :=
  ∀ (ctl : Nibble) (cid : Cid) (code : Code),
    (encodeF ctl cid code).b0.toNat = 0xA7 ∧
    (encodeF ctl cid code).b1.toNat / 16 = ctl.toNat ∧
    (encodeF ctl cid code).b2.toNat = code.toNat / 256 ∧
    (encodeF ctl cid code).b3.toNat = code.toNat % 256 ∧
    (encodeF ctl cid code).b4.toNat = cid.toNat % 256 ∧
    (encodeF ctl cid code).b5.toNat = cid.toNat / 256 % 256 ∧
    (encodeF ctl cid code).b6.toNat = cid.toNat / 65536 % 256 ∧
    encodeF ctl cid code = encodeF ctl (cid &&& 0x00FFFFFF) code

/-- Before the checksum the header bytes are the nonce and the control code above a zero nibble (R161). The
checksum folds the seven bytes and is put into the low nibble of byte 1; it is the XOR of the 14 nibbles of the
frame before insertion (R164). -/
def Obligations.ChecksumIsNibbleParity : Prop :=
  ∀ (ctl : Nibble) (cid : Cid) (code : Code),
    let e := frameWithoutChecksum ctl cid code
    let folded := e.bytes.map fun (b : Byte) => b ^^^ (b >>> 4)
    e.b0.toNat = 0xA7 ∧ e.b1.toNat = 16 * ctl.toNat ∧
    encodeF ctl cid code = { e with b1 := e.b1 ||| (folded.foldl (· ^^^ ·) 0 &&& 0x0F) } ∧
    encodeF ctl cid code = { e with b1 := e.b1 ||| (nibbleParity e).setWidth 8 }

/-- Every frame the block builds passes the receiver's check: nonce and nibble parity (R168(b), R169). -/
def Obligations.BuiltFramesAreValid : Prop :=
  ∀ (ctl : Nibble) (cid : Cid) (code : Code),
    nibbleParity (encodeF ctl cid code) = 0 ∧ validF (obfF (encodeF ctl cid code)) = true

/-- The XOR chain byte by byte, and as the XOR of the bytes up to each (R166); its inverse byte by byte, and
that the two undo each other on every 7-byte list (R167, C1). -/
def Obligations.ObfuscationInverts : Prop :=
  (∀ e : Frame, let o := obfF e
    o.b0 = e.b0 ∧ o.b1 = e.b1 ^^^ o.b0 ∧ o.b2 = e.b2 ^^^ o.b1 ∧ o.b3 = e.b3 ^^^ o.b2 ∧
    o.b4 = e.b4 ^^^ o.b3 ∧ o.b5 = e.b5 ^^^ o.b4 ∧ o.b6 = e.b6 ^^^ o.b5 ∧
    o.bytes = (List.range 7).map fun i => (e.bytes.take (i + 1)).foldl (· ^^^ ·) 0) ∧
  (∀ o : Frame, let e := deobfF o
    e.b0 = o.b0 ∧ e.b1 = o.b1 ^^^ o.b0 ∧ e.b2 = o.b2 ^^^ o.b1 ∧ e.b3 = o.b3 ^^^ o.b2 ∧
    e.b4 = o.b4 ^^^ o.b3 ∧ e.b5 = o.b5 ^^^ o.b4 ∧ e.b6 = o.b6 ^^^ o.b5) ∧
  (∀ e : Frame, deobfF (obfF e) = e) ∧ ∀ o : Frame, obfF (deobfF o) = o

/-- On the air: byte 0 is the nonce, and the control code is the high nibble of the first two bytes XORed
(R168(c), (d)). -/
def Obligations.ControlCodeRecoverableFromAir : Prop :=
  ∀ (ctl : Nibble) (cid : Cid) (code : Code),
    (obfF (encodeF ctl cid code)).b0 = 0xA7 ∧
    ((obfF (encodeF ctl cid code)).b1 ^^^ (obfF (encodeF ctl cid code)).b0).extractLsb' 4 4 = ctl

/-! ### WaveformEncoder (42_waveform_encoder.md) -/

/-- BUILD_WAVEFORM answers the raw segment list of its mode and changes nothing else (R190). -/
def Obligations.WaveAnswersRawSegments : Prop :=
  ∀ (s : State) (o : Frame),
    exec (.waveFull o) s = .next { s with trace := s.trace ++ [.resp (.segments (buildF o .full))] } ∧
    exec (.waveAbbr o) s = .next { s with trace := s.trace ++ [.resp (.segments (buildF o .abbreviated))] }

/-- The raw list, element by element: `N` hardware-sync pulses, one software sync, then 56 Manchester bits, byte
0 first and each most significant bit first, and nothing after them (R190 to R193, R103). -/
def Obligations.RawSegmentsAreManchester : Prop :=
  ∀ (o : Frame) (mode : SyncMode),
    let pulses := match mode with
      | .full => 7
      | .abbreviated => 2
    (buildF o mode).length = 2 * pulses + 2 + 112 ∧
    (∀ k, k < pulses → (buildF o mode)[2 * k]? = some ⟨.mark, 2416⟩ ∧
      (buildF o mode)[2 * k + 1]? = some ⟨.space, 2416⟩) ∧
    (buildF o mode)[2 * pulses]? = some ⟨.mark, 4550⟩ ∧
    (buildF o mode)[2 * pulses + 1]? = some ⟨.space, 604⟩ ∧
    ∀ k, k < 56 →
      let bit := (o.bytes.getD (k / 8) 0).getLsbD (7 - k % 8)
      (buildF o mode)[2 * pulses + 2 + 2 * k]? = some ⟨if bit then .space else .mark, 604⟩ ∧
      (buildF o mode)[2 * pulses + 2 + 2 * k + 1]? = some ⟨if bit then .mark else .space, 604⟩

/-- The sizes of the bursts: raw segments, duration and mark time depend on the mode alone (R197, R113). -/
def Obligations.BurstSizes : Prop :=
  (wakeF.length = 1 ∧ dur wakeF = 9415 ∧ markTime wakeF = 9415) ∧
  ∀ o : Frame,
    ((buildF o .full).length = 128 ∧ dur (buildF o .full) = 106626 ∧ markTime (buildF o .full) = 55286) ∧
    ((buildF o .abbreviated).length = 118 ∧ dur (buildF o .abbreviated) = 82466 ∧
      markTime (buildF o .abbreviated) = 43206)

/-- The equations of `Canon` (R111), which fix it on every list: adjacent segments of one level merge into one
whose duration is their sum, any other segment stays as it is. From them: the canonical form strictly alternates,
has the same duration and the same time at mark, and a list that alternates is its own canonical form. -/
def Obligations.CanonicalFormAlternates : Prop :=
  canon [] = [] ∧ (∀ x, canon [x] = [x]) ∧
  (∀ (l : Level) (a b : Nat) (rest : List Segment),
    canon (⟨l, a⟩ :: ⟨l, b⟩ :: rest) = canon (⟨l, a + b⟩ :: rest)) ∧
  (∀ (l m : Level) (a b : Nat) (rest : List Segment), l ≠ m →
    canon (⟨l, a⟩ :: ⟨m, b⟩ :: rest) = ⟨l, a⟩ :: canon (⟨m, b⟩ :: rest)) ∧
  ∀ segs : List Segment,
    (canon segs).IsChain (fun x y => x.level ≠ y.level) ∧ dur (canon segs) = dur segs ∧
    markTime (canon segs) = markTime segs ∧
    (segs.IsChain (fun x y => x.level ≠ y.level) → canon segs = segs)

/-- `Canon` loses no information of a frame burst: the frame is a function of the canonical form and the mode
(R198). -/
def Obligations.CanonicalFormDeterminesFrame : Prop :=
  ∀ (o o' : Frame) (mode : SyncMode), canon (buildF o mode) = canon (buildF o' mode) → o = o'

/-! ### TransmissionScheduler (43_scheduler.md) -/

/-- CONTROL with a request queues the control code with the full repetition count and activates an Idle
scheduler (R225, R220, R222). -/
def Obligations.ControlQueuesCommand : Prop :=
  ∀ (s : State) (n : SlotIx), SlotsOk s → n.toNat < s.cfg.nch → (s.slot n).ready = true →
    (∀ depth ∈ s.cfg.queueDepth, s.q.length ≠ depth) →
    (∃ t, exec (.controlStop n) s = .next t ∧ Enqueued 0x1 n s.cfg.repeats s t) ∧
    (∃ t, exec (.controlOpen n) s = .next t ∧ Enqueued 0x2 n s.cfg.repeats s t) ∧
    (∃ t, exec (.controlClose n) s = .next t ∧ Enqueued 0x4 n s.cfg.repeats s t)

/-- SEND_PROGRAM queues PROGRAM with `min(P_REPEATS, 2)` repetitions (R228). -/
def Obligations.ProgramQueuesAtMostTwo : Prop :=
  ∀ (s : State) (n : SlotIx), SlotsOk s → n.toNat < s.cfg.nch → (s.slot n).ready = true →
    (∀ depth ∈ s.cfg.queueDepth, s.q.length ≠ depth) →
    ∃ t, exec (.program n) s = .next t ∧
      Enqueued 0x8 n (BitVec.ofNat 8 (min s.cfg.repeats.toNat 2)) s t

/-- An ENQUEUE onto a full finite queue is refused before any effect (R221). That a refusal is a next state with
the reason recorded is the model's choice (log 4, log 5). -/
def Obligations.FullQueueIsRefused : Prop :=
  ∀ (s : State) (n : SlotIx), n.toNat < s.cfg.nch → (s.slot n).ready = true →
    s.cfg.queueDepth = some s.q.length →
    ∀ i ∈ [Instr.controlStop n, .controlOpen n, .controlClose n, .program n],
      exec i s = .next { s with refused := true, refusedWith := some .queueFull }

/-- CONTROL with a request that is not STOP, OPEN or CLOSE is logged and ignored: no code is consumed, nothing
queued, saved or notified, whatever the queue holds (R277, R94, R225). -/
def Obligations.InvalidControlIsIgnored : Prop :=
  ∀ (s : State) (n : SlotIx), n.toNat < s.cfg.nch → (s.slot n).ready = true →
    ∀ x ∈ [(Instr.controlInvalid0 n, 0x0#4), (.controlInvalid3 n, 0x3#4), (.controlInvalid5 n, 0x5#4),
        (.controlInvalid6 n, 0x6#4), (.controlInvalid7 n, 0x7#4), (.controlInvalid8 n, 0x8#4),
        (.controlInvalid9 n, 0x9#4), (.controlInvalidA n, 0xA#4), (.controlInvalidB n, 0xB#4),
        (.controlInvalidC n, 0xC#4), (.controlInvalidD n, 0xD#4), (.controlInvalidE n, 0xE#4),
        (.controlInvalidF n, 0xF#4)],
      exec x.1 s = .next { s with
        trace := s.trace ++ [.log (.error (.invalidCommand n x.2)), .resp .ignored] }

/-- STEP case 1: an empty queue makes the block Idle, nothing is scheduled (R240, R241). -/
def Obligations.StepOnEmptyQueueGoesIdle : Prop :=
  ∀ (s : State) (p : Pending), s.pend = some p → p.due ≤ s.now → s.q = [] →
    exec .step s = .next { s with pend := none, active := false }

/-- STEP case 2: an observed failure cancels the whole queue, whatever its length, logged once with the number
of commands discarded; the wakeup state and the slots stay (R240, R242, R274). -/
def Obligations.StepCancelsFailedBatch : Prop :=
  ∀ (s : State) (p : Pending), s.pend = some p → p.due ≤ s.now → s.q ≠ [] → s.failureObserved = true →
    exec .step s = .next { s with
      pend := none, q := [], failureObserved := false, active := false,
      trace := s.trace ++ [.log (.error (.configurationError s.q.length))] }

/-- STEP case 3: a needed wakeup is offered before any frame. Accepted: the cooldown timer is armed and the next
STEP is abbreviated, after the burst and its silence. Rejected: the failure is observed, the next STEP follows
at once. The queue is not touched (R240, R243, R195). -/
def Obligations.StepSendsWakeup : Prop :=
  ∀ (s : State) (p : Pending), s.pend = some p → p.due ≤ s.now → s.q ≠ [] → s.failureObserved = false →
    s.needsWakeup = true →
    ∃ t, exec .step s = .next t ∧
      t.trace = s.trace ++ [.tx .wakeup [⟨.mark, 9415⟩] s.txReply] ∧
      t.q = s.q ∧ t.ch = s.ch ∧ t.store = s.store ∧ t.active = s.active ∧ SameMarks s t ∧
      (if s.txReply then
        t.needsWakeup = false ∧ t.wt = some (s.now + 10000000) ∧ t.failureObserved = false ∧
        t.pend = some { due := s.now + (9415 + s.cfg.wakeSilence), abbreviated := true }
      else
        t.needsWakeup = true ∧ t.wt = s.wt ∧ t.failureObserved = true ∧
        t.pend = some { due := s.now, abbreviated := false })

/-- STEP case 4: one frame of the command at the head, abbreviated exactly where the continuation says so.
Accepted: one more repetition, the command popped when its count is reached, the next STEP after the burst and
the gap. Rejected: the failure is observed, the queue unchanged, the next STEP follows at once (R240, R244 to
R246). -/
def Obligations.StepSendsFrame : Prop :=
  ∀ (s : State) (p : Pending) (c : Cmd) (rest : List Cmd), s.pend = some p → p.due ≤ s.now →
    s.q = c :: rest → s.failureObserved = false → s.needsWakeup = false →
    let segs := buildF (obfF (encodeF c.ctl c.cid c.code)) (if p.abbreviated then .abbreviated else .full)
    ∃ t, exec .step s = .next t ∧ t.trace = s.trace ++ [.tx .frame segs s.txReply] ∧
      t.ch = s.ch ∧ t.store = s.store ∧ t.active = s.active ∧ t.needsWakeup = false ∧ t.wt = s.wt ∧
      SameMarks s t ∧
      (if s.txReply then
        t.q = (if c.req ≤ c.done + 1 then rest else { c with done := c.done + 1 } :: rest) ∧
        t.failureObserved = false ∧
        t.pend = some
          { due := s.now + ((if p.abbreviated then 82466 else 106626) + s.cfg.ifg), abbreviated := false }
      else
        t.q = s.q ∧ t.failureObserved = true ∧ t.pend = some { due := s.now, abbreviated := false })

/-- A transmitter with a carrier rejects every burst; with carrier 0 its answer is what the environment answers
(R285). -/
def Obligations.CarrierRejectsEveryBurst : Prop :=
  ∀ s : State, (s.cfg.txCarrier ≠ 0 → s.txReply = false) ∧
    ∀ a rest, s.cfg.txCarrier = 0 → s.env.txs = a :: rest → s.txReply = a

/-- WAKE_EXPIRE, enabled exactly when the cooldown timer is due, disarms it and makes a wakeup needed; nothing
else changes (R250). -/
def Obligations.WakeExpireRearms : Prop :=
  ∀ (s : State) (due : Nat), s.wt = some due → due ≤ s.now →
    exec .wakeExpire s = .next { s with wt := none, needsWakeup := true }

/-- An event that is not enabled is not taken: the state stays as it is. (The spec gives no such transition;
that choosing it changes nothing is the model's choice, log 6.) -/
def Obligations.DisabledEventsChangeNothing : Prop :=
  ∀ s : State,
    ((∀ p ∈ s.pend, s.now < p.due) → exec .step s = .next s) ∧
    ((∀ due ∈ s.wt, s.now < due) → exec .wakeExpire s = .next s)

/-- A rejected burst is the end of its batch: the next STEP empties the queue, whatever its length, with one
error logged (R255(g), R247, R245, R243). -/
def Obligations.RejectionEmptiesQueueNextStep : Prop :=
  ∀ (s : State) (p : Pending) (rest : List Turn), s.pend = some p → p.due ≤ s.now → s.q ≠ [] →
    s.failureObserved = false → s.env.turns = .input .step :: .input .step :: rest → s.txReply = false →
    ∃ t kind segs, core.run 2 s = .next t ∧ t.q = [] ∧ t.active = false ∧ t.pend = none ∧
      t.failureObserved = false ∧ t.ch = s.ch ∧
      t.trace = s.trace ++ [.tx kind segs false, .log (.error (.configurationError s.q.length))]

/-- A whole queue sent without a rejection and without a wakeup in between: every command gets exactly the
repetitions it has left, all alike, in the order the commands were queued, and the queue is empty after that
(R255(b), (c), R246). -/
def Obligations.QueueDrainsInOrder : Prop :=
  ∀ (s : State) (p : Pending) (d : Nat) (xs : List Bool) (rest : List Turn),
    (∀ c ∈ s.q, cmdOk c = true) → s.needsWakeup = false → s.failureObserved = false →
    s.cfg.txCarrier = 0 → s.pend = some p → p.abbreviated = false → p.due ≤ s.now + d →
    106626 + s.cfg.ifg ≤ d → s.env.txs = List.replicate (remainingAll s.q) true ++ xs →
    s.env.turns = (List.replicate (remainingAll s.q) [.advance d, .input .step]).flatten ++ rest →
    ∃ t, core.run (2 * remainingAll s.q) s = .next t ∧ t.q = [] ∧ t.trace = s.trace ++ framesOf s.q ∧
      t.active = s.active ∧ t.ch = s.ch ∧ t.needsWakeup = false

/-- While the cooldown timer runs no further wakeup is sent: over any run of presented transitions without a
RESET that ends before the timer is due, the accepted WAKEUP bursts stay as they were (R255(e), R42). -/
def Obligations.NoWakeupDuringCooldown : Prop :=
  ∀ (k : Nat) (s t : State) (due : Nat), Inv s → s.wt = some due → k ≤ s.env.turns.length →
    .input .reset ∉ s.env.turns → core.run k s = .next t → t.now < due →
    (acceptedBursts t.trace).filter (fun b => b.1 == .wakeup) =
      (acceptedBursts s.trace).filter (fun b => b.1 == .wakeup)

/-! ### RESET, refusals and stops -/

/-- RESET gives every element of the block's state the reset value of R55's table; `now` and the contents of
the slots, which the table leaves at any value, are not fixed here either. -/
def Obligations.ResetWritesResetValues : Prop :=
  ∀ s : State, ∃ t, exec .reset s = .next t ∧ AtReset s.cfg t

/-- The machine starts in the reset state, with nothing enabled and every invariant of the block holding (R55,
R301). Two conjuncts of `Inv` are the model's own choice: the record of a refusal's reason (log 5) and the rising
keys of the store (log 13). The zero values of `now` and the slots and the store's contents at reset are the
model's choice too (log 7, log 8, log 14), and this does not state them. -/
def Obligations.ResetStateMeetsInvariants : Prop :=
  AtReset State.reset.cfg State.reset ∧ State.reset.stepEnabled = none ∧ State.reset.wakeEnabled = false ∧
    Inv State.reset ∧ WakeupFirst State.reset ∧ AbbrevFollowsWakeup State.reset ∧
    FramesFollowWakeups State.reset.trace

/-- A word with a reserved opcode is refused RESERVED_OPCODE whatever its other bits (R98, R280). That a refusal
is a next state is the model's choice (log 4, log 5). -/
def Obligations.ReservedOpcodesAreRefused : Prop :=
  ∀ (s : State) (rest : BitVec 60),
    ∀ i ∈ [Instr.reservedOp0 rest, .reservedOp8 rest, .reservedOp9 rest, .reservedOpA rest,
        .reservedOpB rest, .reservedOpC rest, .reservedOpD rest, .reservedOpE rest, .reservedOpF rest],
      exec i s = .next { s with refused := true, refusedWith := some .reservedOpcode }

/-- A frame byte is no operation of the block: the machine answers no state for it (R90, R93, R100; log 12). -/
def Obligations.FrameBytesAreNoOperation : Prop :=
  ∀ (s : State) (chk : Nibble),
    ∀ i ∈ [Instr.frameCtlStop chk, .frameCtlOpen chk, .frameCtlClose chk, .frameCtlProgram chk],
      exec i s = .refused .frameByteNotAnOperation

/-- REFUSED is sticky until RESET, and the operation that sets it changes nothing else (R280). That a refusal is
a next state with the reason recorded is the model's choice (log 4, log 5). -/
def Obligations.RefusalIsStickyAndInert : Prop :=
  ∀ (i : Instr) (s t : State), exec i s = .next t →
    (s.refused = true → i ≠ .reset → t.refused = true) ∧
    (s.refused = false → t.refused = true →
      ∃ r, t = { s with refused := true, refusedWith := some r })

/-! ### Rules of the whole machine -/

/-- The invariant of the block (R20, R31, R38, R39, R42, R61) is kept by every step. Two conjuncts of `Inv` are the
model's own choice and no rule of the spec: that the refusal mark is set exactly where a reason is recorded
(log 5), and that the store's keys are strictly rising (log 13). -/
def Obligations.StepKeepsInvariant : Prop := ∀ s t : State, Inv s → step s = .next t → Inv t

/-- The first accepted burst is a WAKEUP: kept by every step (R255(h)). -/
def Obligations.StepKeepsWakeupFirst : Prop :=
  ∀ s t : State, WakeupFirst s → step s = .next t → WakeupFirst t

/-- A FRAME burst is abbreviated exactly where the burst before it was an accepted WAKEUP: kept by every step
(R255(f), R244). -/
def Obligations.StepKeepsSyncModes : Prop :=
  ∀ s t : State, Inv s → AbbrevFollowsWakeup s → FramesFollowWakeups s.trace → step s = .next t →
    AbbrevFollowsWakeup t ∧ FramesFollowWakeups t.trace

/-- No step changes the parameters (R46). -/
def Obligations.StepKeepsParameters : Prop := ∀ s t : State, step s = .next t → t.cfg = s.cfg

/-- No operation but RESET changes a slot other than the one its `CH` field names, nor the number of slots
(R22, R137). -/
def Obligations.OnlyNamedSlotChanges : Prop :=
  ∀ (i : Instr) (s t : State), i ≠ .reset → exec i s = .next t →
    t.ch.length = s.ch.length ∧ ∀ m : SlotIx, i.slot? ≠ some m → t.slot m = s.slot m

/-- No operation but RESET changes `now`: time passes between transitions only (R45, R320). -/
def Obligations.OperationsTakeNoTime : Prop :=
  ∀ (i : Instr) (s t : State), i ≠ .reset → exec i s = .next t → t.now = s.now

/-- What sets and clears the three flags (R35, R36, R37). -/
def Obligations.FlagsChangeOnlyAsStated : Prop :=
  ∀ (i : Instr) (s t : State), exec i s = .next t →
    (s.needsWakeup = false → t.needsWakeup = true → i = .wakeExpire ∨ i = .reset) ∧
    (s.needsWakeup = true → t.needsWakeup = false →
      i = .step ∧ t.trace = s.trace ++ [.tx .wakeup wakeF true]) ∧
    (s.failureObserved = false → t.failureObserved = true →
      i = .step ∧ ∃ kind segs, t.trace = s.trace ++ [.tx kind segs false]) ∧
    (s.failureObserved = true → t.failureObserved = false →
      (i = .step ∧ s.q ≠ [] ∧ t.q = [] ∧ t.active = false) ∨ i = .reset) ∧
    (s.active = false → t.active = true → ∃ c, t.q = s.q ++ [c]) ∧
    (s.active = true → t.active = false → (i = .step ∧ t.q = []) ∨ i = .reset)

/-- The queue is a FIFO: an operation appends at most one entry at the tail; STEP keeps it, removes or updates
its head, or clears it; an entry's code, channel id and control code never change (R30, R32). -/
def Obligations.QueueIsFifo : Prop :=
  ∀ (i : Instr) (s t : State), exec i s = .next t →
    (i ≠ .step → i ≠ .reset → t.q = s.q ∨ ∃ c, t.q = s.q ++ [c]) ∧
    (i = .step → t.q = s.q ∨ t.q = [] ∨
      ∃ c rest, s.q = c :: rest ∧ (t.q = rest ∨ t.q = { c with done := c.done + 1 } :: rest))

/-- TRACE only grows (RESET aside), and one operation raises or detects at most one error (R50, R273). -/
def Obligations.AtMostOneErrorPerOperation : Prop :=
  ∀ (i : Instr) (s t : State), i ≠ .reset → exec i s = .next t →
    ∃ new, t.trace = s.trace ++ new ∧ (new.filter isErrorOrRejection).length ≤ 1

/-- A host operation that is not refused ends with its one response; a refused one emits nothing (R99, R280).
That a refusal is a next state with the reason recorded is the model's choice (log 4, log 5). -/
def Obligations.OneResponseAtTheEnd : Prop :=
  ∀ (i : Instr) (s t : State), i ≠ .step → i ≠ .wakeExpire → i ≠ .reset → exec i s = .next t →
    (∃ r, t = { s with refused := true, refusedWith := some r }) ∨
    ∃ new v, t.trace = s.trace ++ new ++ [.resp v] ∧ ∀ e ∈ new, isResponse e = false

/-- Internal events answer nothing (R99, R240, R250). -/
def Obligations.EventsAnswerNothing : Prop :=
  ∀ (i : Instr) (s t : State), i = .step ∨ i = .wakeExpire → exec i s = .next t →
    responsesOf t.trace = responsesOf s.trace

/-- Only CONSUME, CONFIG_CHANNEL with a field, CONTROL and SEND_PROGRAM write the store, each at its own slot's
key only; everything else, INIT's load among it, leaves every record (R60, R69). -/
def Obligations.StoreWrittenOnlyAtOwnKey : Prop :=
  ∀ (i : Instr) (s t : State), exec i s = .next t →
    (∀ k, (∀ n, i.slot? = some n → k ≠ s.keyOf n) → Memory.read t.store k = Memory.read s.store k) ∧
    (∀ n, i = .init n ∨ i = .configNone n → StoreSame s t)
end

