-- ==== Sys2Proof/Laws/Memory.lean ====
section
/-! SUPPORT. The keyed store: a read after a write, and that every operation keeps the canonical form. -/

namespace Sys2Proof.Machine.Memory

/-- A key below every listed key has no record. -/
theorem read_none_of_lt (m : Memory) (k : Nat) (h : ∀ x ∈ m, k < x.1) : Memory.read m k = none := by
  induction m with
  | nil => rfl
  | cons x rest ih =>
    have hx : x.1 ≠ k := Nat.ne_of_gt (h x (by simp))
    simp [Memory.read, hx, ih (fun y hy => h y (by simp [hy]))]

/-- A saved record is read back. -/
@[simp] theorem read_write_same (m : Memory) (k : Nat) (r : List Byte) :
    Memory.read (Memory.write m k r) k = some r := by
  induction m with
  | nil => simp [Memory.write, Memory.read]
  | cons x rest ih =>
    unfold Memory.write
    split
    · simp [Memory.read]
    · split
      · simp [Memory.read]
      · rename_i h1 h2
        simp [Memory.read, Ne.symm h2, ih]

/-- A save leaves every other key alone. -/
theorem read_write_other (m : Memory) (k j : Nat) (r : List Byte) (h : j ≠ k) :
    Memory.read (Memory.write m k r) j = Memory.read m j := by
  induction m with
  | nil => simp [Memory.write, Memory.read, Ne.symm h]
  | cons x rest ih =>
    unfold Memory.write
    split
    · simp [Memory.read, Ne.symm h]
    · split
      · rename_i h1 h2
        subst h2
        simp [Memory.read, Ne.symm h]
      · simp [Memory.read, ih]

/-- What a written store lists: the saved record, and records it listed before. -/
theorem mem_write (m : Memory) (k : Nat) (r : List Byte) (x : Nat × List Byte)
    (h : x ∈ Memory.write m k r) : x = (k, r) ∨ x ∈ m := by
  induction m with
  | nil => simpa [Memory.write] using h
  | cons y rest ih =>
    unfold Memory.write at h
    split at h
    · simpa using h
    · split at h
      · rcases List.mem_cons.1 h with h | h
        · exact .inl h
        · exact .inr (by simp [h])
      · rcases List.mem_cons.1 h with h | h
        · exact .inr (by simp [h])
        · exact (ih h).imp id fun h => by simp [h]

/-- The keys of a written store stay strictly rising. -/
theorem write_rising (m : Memory) (k : Nat) (r : List Byte)
    (h : m.Pairwise (fun x y => x.1 < y.1)) : (Memory.write m k r).Pairwise (fun x y => x.1 < y.1) := by
  induction m with
  | nil => simp [Memory.write]
  | cons x rest ih =>
    obtain ⟨hx, hr⟩ := List.pairwise_cons.1 h
    unfold Memory.write
    split
    · rename_i hk
      refine List.pairwise_cons.2 ⟨fun y hy => ?_, h⟩
      rcases List.mem_cons.1 hy with rfl | hy
      · exact hk
      · exact Nat.lt_trans hk (hx y hy)
    · split
      · rename_i hk
        exact List.pairwise_cons.2 ⟨fun y hy => hk ▸ hx y hy, hr⟩
      · rename_i h1 h2
        refine List.pairwise_cons.2 ⟨fun y hy => ?_, ih hr⟩
        rcases mem_write rest k r y hy with rfl | hy
        · exact Nat.lt_of_le_of_ne (Nat.le_of_not_lt h1) (Ne.symm h2)
        · exact hx y hy

/-- Saving a whole record keeps the canonical form. -/
theorem write_wf (m : Memory) (k : Nat) (r : List Byte) (h : Memory.wf m) (hr : r.length = 6) :
    Memory.wf (Memory.write m k r) := by
  refine ⟨write_rising m k r h.1, fun x hx => ?_⟩
  rcases mem_write m k r x hx with rfl | hx
  · exact hr
  · exact h.2 x hx

/-- A save in its canonical form, whatever the store answered. -/
theorem storeAfter_wf (s : State) (key : Nat) (r : List Byte) (ok : Bool) (h : Memory.wf s.store)
    (hr : r.length = 6) : Memory.wf (s.storeAfter key r ok) := by
  unfold State.storeAfter
  split
  · exact write_wf _ _ _ h hr
  · exact h

/-- Before anything was saved the store is in canonical form. -/
theorem boot_wf (p : Params) : Memory.wf (State.boot p).store := by
  simp [State.boot, Memory.wf]

end Sys2Proof.Machine.Memory
end

