-- ==== Sys2Proof/Laws/State.lean ====
section
/-! SUPPORT. One lemma per field per update of the state, so that no later proof unfolds a record update; and
what each shared operation of Machine/Ops.lean leaves unchanged. -/

namespace Sys2Proof.Machine.State

variable (s : State)

@[simp] theorem withCh_cfg (v : List ChanSlot) : (s.withCh v).cfg = s.cfg := rfl
@[simp] theorem withCh_ch (v : List ChanSlot) : (s.withCh v).ch = v := rfl
@[simp] theorem withCh_q (v : List ChanSlot) : (s.withCh v).q = s.q := rfl
@[simp] theorem withCh_needsWakeup (v : List ChanSlot) : (s.withCh v).needsWakeup = s.needsWakeup := rfl
@[simp] theorem withCh_failureObserved (v : List ChanSlot) : (s.withCh v).failureObserved = s.failureObserved := rfl
@[simp] theorem withCh_active (v : List ChanSlot) : (s.withCh v).active = s.active := rfl
@[simp] theorem withCh_pend (v : List ChanSlot) : (s.withCh v).pend = s.pend := rfl
@[simp] theorem withCh_wt (v : List ChanSlot) : (s.withCh v).wt = s.wt := rfl
@[simp] theorem withCh_now (v : List ChanSlot) : (s.withCh v).now = s.now := rfl
@[simp] theorem withCh_trace (v : List ChanSlot) : (s.withCh v).trace = s.trace := rfl
@[simp] theorem withCh_refused (v : List ChanSlot) : (s.withCh v).refused = s.refused := rfl
@[simp] theorem withCh_refusedWith (v : List ChanSlot) : (s.withCh v).refusedWith = s.refusedWith := rfl
@[simp] theorem withCh_store (v : List ChanSlot) : (s.withCh v).store = s.store := rfl
@[simp] theorem withCh_env (v : List ChanSlot) : (s.withCh v).env = s.env := rfl
@[simp] theorem withCh_draws (v : List ChanSlot) : (s.withCh v).draws = s.draws := rfl

@[simp] theorem withQ_cfg (v : List Cmd) : (s.withQ v).cfg = s.cfg := rfl
@[simp] theorem withQ_ch (v : List Cmd) : (s.withQ v).ch = s.ch := rfl
@[simp] theorem withQ_q (v : List Cmd) : (s.withQ v).q = v := rfl
@[simp] theorem withQ_needsWakeup (v : List Cmd) : (s.withQ v).needsWakeup = s.needsWakeup := rfl
@[simp] theorem withQ_failureObserved (v : List Cmd) : (s.withQ v).failureObserved = s.failureObserved := rfl
@[simp] theorem withQ_active (v : List Cmd) : (s.withQ v).active = s.active := rfl
@[simp] theorem withQ_pend (v : List Cmd) : (s.withQ v).pend = s.pend := rfl
@[simp] theorem withQ_wt (v : List Cmd) : (s.withQ v).wt = s.wt := rfl
@[simp] theorem withQ_now (v : List Cmd) : (s.withQ v).now = s.now := rfl
@[simp] theorem withQ_trace (v : List Cmd) : (s.withQ v).trace = s.trace := rfl
@[simp] theorem withQ_refused (v : List Cmd) : (s.withQ v).refused = s.refused := rfl
@[simp] theorem withQ_refusedWith (v : List Cmd) : (s.withQ v).refusedWith = s.refusedWith := rfl
@[simp] theorem withQ_store (v : List Cmd) : (s.withQ v).store = s.store := rfl
@[simp] theorem withQ_env (v : List Cmd) : (s.withQ v).env = s.env := rfl
@[simp] theorem withQ_draws (v : List Cmd) : (s.withQ v).draws = s.draws := rfl

@[simp] theorem withNeedsWakeup_cfg (v : Bool) : (s.withNeedsWakeup v).cfg = s.cfg := rfl
@[simp] theorem withNeedsWakeup_ch (v : Bool) : (s.withNeedsWakeup v).ch = s.ch := rfl
@[simp] theorem withNeedsWakeup_q (v : Bool) : (s.withNeedsWakeup v).q = s.q := rfl
@[simp] theorem withNeedsWakeup_needsWakeup (v : Bool) : (s.withNeedsWakeup v).needsWakeup = v := rfl
@[simp] theorem withNeedsWakeup_failureObserved (v : Bool) : (s.withNeedsWakeup v).failureObserved = s.failureObserved := rfl
@[simp] theorem withNeedsWakeup_active (v : Bool) : (s.withNeedsWakeup v).active = s.active := rfl
@[simp] theorem withNeedsWakeup_pend (v : Bool) : (s.withNeedsWakeup v).pend = s.pend := rfl
@[simp] theorem withNeedsWakeup_wt (v : Bool) : (s.withNeedsWakeup v).wt = s.wt := rfl
@[simp] theorem withNeedsWakeup_now (v : Bool) : (s.withNeedsWakeup v).now = s.now := rfl
@[simp] theorem withNeedsWakeup_trace (v : Bool) : (s.withNeedsWakeup v).trace = s.trace := rfl
@[simp] theorem withNeedsWakeup_refused (v : Bool) : (s.withNeedsWakeup v).refused = s.refused := rfl
@[simp] theorem withNeedsWakeup_refusedWith (v : Bool) : (s.withNeedsWakeup v).refusedWith = s.refusedWith := rfl
@[simp] theorem withNeedsWakeup_store (v : Bool) : (s.withNeedsWakeup v).store = s.store := rfl
@[simp] theorem withNeedsWakeup_env (v : Bool) : (s.withNeedsWakeup v).env = s.env := rfl
@[simp] theorem withNeedsWakeup_draws (v : Bool) : (s.withNeedsWakeup v).draws = s.draws := rfl

@[simp] theorem withFailureObserved_cfg (v : Bool) : (s.withFailureObserved v).cfg = s.cfg := rfl
@[simp] theorem withFailureObserved_ch (v : Bool) : (s.withFailureObserved v).ch = s.ch := rfl
@[simp] theorem withFailureObserved_q (v : Bool) : (s.withFailureObserved v).q = s.q := rfl
@[simp] theorem withFailureObserved_needsWakeup (v : Bool) : (s.withFailureObserved v).needsWakeup = s.needsWakeup := rfl
@[simp] theorem withFailureObserved_failureObserved (v : Bool) : (s.withFailureObserved v).failureObserved = v := rfl
@[simp] theorem withFailureObserved_active (v : Bool) : (s.withFailureObserved v).active = s.active := rfl
@[simp] theorem withFailureObserved_pend (v : Bool) : (s.withFailureObserved v).pend = s.pend := rfl
@[simp] theorem withFailureObserved_wt (v : Bool) : (s.withFailureObserved v).wt = s.wt := rfl
@[simp] theorem withFailureObserved_now (v : Bool) : (s.withFailureObserved v).now = s.now := rfl
@[simp] theorem withFailureObserved_trace (v : Bool) : (s.withFailureObserved v).trace = s.trace := rfl
@[simp] theorem withFailureObserved_refused (v : Bool) : (s.withFailureObserved v).refused = s.refused := rfl
@[simp] theorem withFailureObserved_refusedWith (v : Bool) : (s.withFailureObserved v).refusedWith = s.refusedWith := rfl
@[simp] theorem withFailureObserved_store (v : Bool) : (s.withFailureObserved v).store = s.store := rfl
@[simp] theorem withFailureObserved_env (v : Bool) : (s.withFailureObserved v).env = s.env := rfl
@[simp] theorem withFailureObserved_draws (v : Bool) : (s.withFailureObserved v).draws = s.draws := rfl

@[simp] theorem withActive_cfg (v : Bool) : (s.withActive v).cfg = s.cfg := rfl
@[simp] theorem withActive_ch (v : Bool) : (s.withActive v).ch = s.ch := rfl
@[simp] theorem withActive_q (v : Bool) : (s.withActive v).q = s.q := rfl
@[simp] theorem withActive_needsWakeup (v : Bool) : (s.withActive v).needsWakeup = s.needsWakeup := rfl
@[simp] theorem withActive_failureObserved (v : Bool) : (s.withActive v).failureObserved = s.failureObserved := rfl
@[simp] theorem withActive_active (v : Bool) : (s.withActive v).active = v := rfl
@[simp] theorem withActive_pend (v : Bool) : (s.withActive v).pend = s.pend := rfl
@[simp] theorem withActive_wt (v : Bool) : (s.withActive v).wt = s.wt := rfl
@[simp] theorem withActive_now (v : Bool) : (s.withActive v).now = s.now := rfl
@[simp] theorem withActive_trace (v : Bool) : (s.withActive v).trace = s.trace := rfl
@[simp] theorem withActive_refused (v : Bool) : (s.withActive v).refused = s.refused := rfl
@[simp] theorem withActive_refusedWith (v : Bool) : (s.withActive v).refusedWith = s.refusedWith := rfl
@[simp] theorem withActive_store (v : Bool) : (s.withActive v).store = s.store := rfl
@[simp] theorem withActive_env (v : Bool) : (s.withActive v).env = s.env := rfl
@[simp] theorem withActive_draws (v : Bool) : (s.withActive v).draws = s.draws := rfl

@[simp] theorem withPend_cfg (v : Option Pending) : (s.withPend v).cfg = s.cfg := rfl
@[simp] theorem withPend_ch (v : Option Pending) : (s.withPend v).ch = s.ch := rfl
@[simp] theorem withPend_q (v : Option Pending) : (s.withPend v).q = s.q := rfl
@[simp] theorem withPend_needsWakeup (v : Option Pending) : (s.withPend v).needsWakeup = s.needsWakeup := rfl
@[simp] theorem withPend_failureObserved (v : Option Pending) : (s.withPend v).failureObserved = s.failureObserved := rfl
@[simp] theorem withPend_active (v : Option Pending) : (s.withPend v).active = s.active := rfl
@[simp] theorem withPend_pend (v : Option Pending) : (s.withPend v).pend = v := rfl
@[simp] theorem withPend_wt (v : Option Pending) : (s.withPend v).wt = s.wt := rfl
@[simp] theorem withPend_now (v : Option Pending) : (s.withPend v).now = s.now := rfl
@[simp] theorem withPend_trace (v : Option Pending) : (s.withPend v).trace = s.trace := rfl
@[simp] theorem withPend_refused (v : Option Pending) : (s.withPend v).refused = s.refused := rfl
@[simp] theorem withPend_refusedWith (v : Option Pending) : (s.withPend v).refusedWith = s.refusedWith := rfl
@[simp] theorem withPend_store (v : Option Pending) : (s.withPend v).store = s.store := rfl
@[simp] theorem withPend_env (v : Option Pending) : (s.withPend v).env = s.env := rfl
@[simp] theorem withPend_draws (v : Option Pending) : (s.withPend v).draws = s.draws := rfl

@[simp] theorem withWt_cfg (v : Option Nat) : (s.withWt v).cfg = s.cfg := rfl
@[simp] theorem withWt_ch (v : Option Nat) : (s.withWt v).ch = s.ch := rfl
@[simp] theorem withWt_q (v : Option Nat) : (s.withWt v).q = s.q := rfl
@[simp] theorem withWt_needsWakeup (v : Option Nat) : (s.withWt v).needsWakeup = s.needsWakeup := rfl
@[simp] theorem withWt_failureObserved (v : Option Nat) : (s.withWt v).failureObserved = s.failureObserved := rfl
@[simp] theorem withWt_active (v : Option Nat) : (s.withWt v).active = s.active := rfl
@[simp] theorem withWt_pend (v : Option Nat) : (s.withWt v).pend = s.pend := rfl
@[simp] theorem withWt_wt (v : Option Nat) : (s.withWt v).wt = v := rfl
@[simp] theorem withWt_now (v : Option Nat) : (s.withWt v).now = s.now := rfl
@[simp] theorem withWt_trace (v : Option Nat) : (s.withWt v).trace = s.trace := rfl
@[simp] theorem withWt_refused (v : Option Nat) : (s.withWt v).refused = s.refused := rfl
@[simp] theorem withWt_refusedWith (v : Option Nat) : (s.withWt v).refusedWith = s.refusedWith := rfl
@[simp] theorem withWt_store (v : Option Nat) : (s.withWt v).store = s.store := rfl
@[simp] theorem withWt_env (v : Option Nat) : (s.withWt v).env = s.env := rfl
@[simp] theorem withWt_draws (v : Option Nat) : (s.withWt v).draws = s.draws := rfl

@[simp] theorem withNow_cfg (v : Nat) : (s.withNow v).cfg = s.cfg := rfl
@[simp] theorem withNow_ch (v : Nat) : (s.withNow v).ch = s.ch := rfl
@[simp] theorem withNow_q (v : Nat) : (s.withNow v).q = s.q := rfl
@[simp] theorem withNow_needsWakeup (v : Nat) : (s.withNow v).needsWakeup = s.needsWakeup := rfl
@[simp] theorem withNow_failureObserved (v : Nat) : (s.withNow v).failureObserved = s.failureObserved := rfl
@[simp] theorem withNow_active (v : Nat) : (s.withNow v).active = s.active := rfl
@[simp] theorem withNow_pend (v : Nat) : (s.withNow v).pend = s.pend := rfl
@[simp] theorem withNow_wt (v : Nat) : (s.withNow v).wt = s.wt := rfl
@[simp] theorem withNow_now (v : Nat) : (s.withNow v).now = v := rfl
@[simp] theorem withNow_trace (v : Nat) : (s.withNow v).trace = s.trace := rfl
@[simp] theorem withNow_refused (v : Nat) : (s.withNow v).refused = s.refused := rfl
@[simp] theorem withNow_refusedWith (v : Nat) : (s.withNow v).refusedWith = s.refusedWith := rfl
@[simp] theorem withNow_store (v : Nat) : (s.withNow v).store = s.store := rfl
@[simp] theorem withNow_env (v : Nat) : (s.withNow v).env = s.env := rfl
@[simp] theorem withNow_draws (v : Nat) : (s.withNow v).draws = s.draws := rfl

@[simp] theorem withTrace_cfg (v : List Event) : (s.withTrace v).cfg = s.cfg := rfl
@[simp] theorem withTrace_ch (v : List Event) : (s.withTrace v).ch = s.ch := rfl
@[simp] theorem withTrace_q (v : List Event) : (s.withTrace v).q = s.q := rfl
@[simp] theorem withTrace_needsWakeup (v : List Event) : (s.withTrace v).needsWakeup = s.needsWakeup := rfl
@[simp] theorem withTrace_failureObserved (v : List Event) : (s.withTrace v).failureObserved = s.failureObserved := rfl
@[simp] theorem withTrace_active (v : List Event) : (s.withTrace v).active = s.active := rfl
@[simp] theorem withTrace_pend (v : List Event) : (s.withTrace v).pend = s.pend := rfl
@[simp] theorem withTrace_wt (v : List Event) : (s.withTrace v).wt = s.wt := rfl
@[simp] theorem withTrace_now (v : List Event) : (s.withTrace v).now = s.now := rfl
@[simp] theorem withTrace_trace (v : List Event) : (s.withTrace v).trace = v := rfl
@[simp] theorem withTrace_refused (v : List Event) : (s.withTrace v).refused = s.refused := rfl
@[simp] theorem withTrace_refusedWith (v : List Event) : (s.withTrace v).refusedWith = s.refusedWith := rfl
@[simp] theorem withTrace_store (v : List Event) : (s.withTrace v).store = s.store := rfl
@[simp] theorem withTrace_env (v : List Event) : (s.withTrace v).env = s.env := rfl
@[simp] theorem withTrace_draws (v : List Event) : (s.withTrace v).draws = s.draws := rfl

@[simp] theorem withRefused_cfg (v : Bool) : (s.withRefused v).cfg = s.cfg := rfl
@[simp] theorem withRefused_ch (v : Bool) : (s.withRefused v).ch = s.ch := rfl
@[simp] theorem withRefused_q (v : Bool) : (s.withRefused v).q = s.q := rfl
@[simp] theorem withRefused_needsWakeup (v : Bool) : (s.withRefused v).needsWakeup = s.needsWakeup := rfl
@[simp] theorem withRefused_failureObserved (v : Bool) : (s.withRefused v).failureObserved = s.failureObserved := rfl
@[simp] theorem withRefused_active (v : Bool) : (s.withRefused v).active = s.active := rfl
@[simp] theorem withRefused_pend (v : Bool) : (s.withRefused v).pend = s.pend := rfl
@[simp] theorem withRefused_wt (v : Bool) : (s.withRefused v).wt = s.wt := rfl
@[simp] theorem withRefused_now (v : Bool) : (s.withRefused v).now = s.now := rfl
@[simp] theorem withRefused_trace (v : Bool) : (s.withRefused v).trace = s.trace := rfl
@[simp] theorem withRefused_refused (v : Bool) : (s.withRefused v).refused = v := rfl
@[simp] theorem withRefused_refusedWith (v : Bool) : (s.withRefused v).refusedWith = s.refusedWith := rfl
@[simp] theorem withRefused_store (v : Bool) : (s.withRefused v).store = s.store := rfl
@[simp] theorem withRefused_env (v : Bool) : (s.withRefused v).env = s.env := rfl
@[simp] theorem withRefused_draws (v : Bool) : (s.withRefused v).draws = s.draws := rfl

@[simp] theorem withRefusedWith_cfg (v : Option RefuseReason) : (s.withRefusedWith v).cfg = s.cfg := rfl
@[simp] theorem withRefusedWith_ch (v : Option RefuseReason) : (s.withRefusedWith v).ch = s.ch := rfl
@[simp] theorem withRefusedWith_q (v : Option RefuseReason) : (s.withRefusedWith v).q = s.q := rfl
@[simp] theorem withRefusedWith_needsWakeup (v : Option RefuseReason) : (s.withRefusedWith v).needsWakeup = s.needsWakeup := rfl
@[simp] theorem withRefusedWith_failureObserved (v : Option RefuseReason) : (s.withRefusedWith v).failureObserved = s.failureObserved := rfl
@[simp] theorem withRefusedWith_active (v : Option RefuseReason) : (s.withRefusedWith v).active = s.active := rfl
@[simp] theorem withRefusedWith_pend (v : Option RefuseReason) : (s.withRefusedWith v).pend = s.pend := rfl
@[simp] theorem withRefusedWith_wt (v : Option RefuseReason) : (s.withRefusedWith v).wt = s.wt := rfl
@[simp] theorem withRefusedWith_now (v : Option RefuseReason) : (s.withRefusedWith v).now = s.now := rfl
@[simp] theorem withRefusedWith_trace (v : Option RefuseReason) : (s.withRefusedWith v).trace = s.trace := rfl
@[simp] theorem withRefusedWith_refused (v : Option RefuseReason) : (s.withRefusedWith v).refused = s.refused := rfl
@[simp] theorem withRefusedWith_refusedWith (v : Option RefuseReason) : (s.withRefusedWith v).refusedWith = v := rfl
@[simp] theorem withRefusedWith_store (v : Option RefuseReason) : (s.withRefusedWith v).store = s.store := rfl
@[simp] theorem withRefusedWith_env (v : Option RefuseReason) : (s.withRefusedWith v).env = s.env := rfl
@[simp] theorem withRefusedWith_draws (v : Option RefuseReason) : (s.withRefusedWith v).draws = s.draws := rfl

@[simp] theorem withStore_cfg (v : Memory) : (s.withStore v).cfg = s.cfg := rfl
@[simp] theorem withStore_ch (v : Memory) : (s.withStore v).ch = s.ch := rfl
@[simp] theorem withStore_q (v : Memory) : (s.withStore v).q = s.q := rfl
@[simp] theorem withStore_needsWakeup (v : Memory) : (s.withStore v).needsWakeup = s.needsWakeup := rfl
@[simp] theorem withStore_failureObserved (v : Memory) : (s.withStore v).failureObserved = s.failureObserved := rfl
@[simp] theorem withStore_active (v : Memory) : (s.withStore v).active = s.active := rfl
@[simp] theorem withStore_pend (v : Memory) : (s.withStore v).pend = s.pend := rfl
@[simp] theorem withStore_wt (v : Memory) : (s.withStore v).wt = s.wt := rfl
@[simp] theorem withStore_now (v : Memory) : (s.withStore v).now = s.now := rfl
@[simp] theorem withStore_trace (v : Memory) : (s.withStore v).trace = s.trace := rfl
@[simp] theorem withStore_refused (v : Memory) : (s.withStore v).refused = s.refused := rfl
@[simp] theorem withStore_refusedWith (v : Memory) : (s.withStore v).refusedWith = s.refusedWith := rfl
@[simp] theorem withStore_store (v : Memory) : (s.withStore v).store = v := rfl
@[simp] theorem withStore_env (v : Memory) : (s.withStore v).env = s.env := rfl
@[simp] theorem withStore_draws (v : Memory) : (s.withStore v).draws = s.draws := rfl

@[simp] theorem withEnv_cfg (v : Env) : (s.withEnv v).cfg = s.cfg := rfl
@[simp] theorem withEnv_ch (v : Env) : (s.withEnv v).ch = s.ch := rfl
@[simp] theorem withEnv_q (v : Env) : (s.withEnv v).q = s.q := rfl
@[simp] theorem withEnv_needsWakeup (v : Env) : (s.withEnv v).needsWakeup = s.needsWakeup := rfl
@[simp] theorem withEnv_failureObserved (v : Env) : (s.withEnv v).failureObserved = s.failureObserved := rfl
@[simp] theorem withEnv_active (v : Env) : (s.withEnv v).active = s.active := rfl
@[simp] theorem withEnv_pend (v : Env) : (s.withEnv v).pend = s.pend := rfl
@[simp] theorem withEnv_wt (v : Env) : (s.withEnv v).wt = s.wt := rfl
@[simp] theorem withEnv_now (v : Env) : (s.withEnv v).now = s.now := rfl
@[simp] theorem withEnv_trace (v : Env) : (s.withEnv v).trace = s.trace := rfl
@[simp] theorem withEnv_refused (v : Env) : (s.withEnv v).refused = s.refused := rfl
@[simp] theorem withEnv_refusedWith (v : Env) : (s.withEnv v).refusedWith = s.refusedWith := rfl
@[simp] theorem withEnv_store (v : Env) : (s.withEnv v).store = s.store := rfl
@[simp] theorem withEnv_env (v : Env) : (s.withEnv v).env = v := rfl
@[simp] theorem withEnv_draws (v : Env) : (s.withEnv v).draws = s.draws := rfl

@[simp] theorem withDraws_cfg (v : Nat) : (s.withDraws v).cfg = s.cfg := rfl
@[simp] theorem withDraws_ch (v : Nat) : (s.withDraws v).ch = s.ch := rfl
@[simp] theorem withDraws_q (v : Nat) : (s.withDraws v).q = s.q := rfl
@[simp] theorem withDraws_needsWakeup (v : Nat) : (s.withDraws v).needsWakeup = s.needsWakeup := rfl
@[simp] theorem withDraws_failureObserved (v : Nat) : (s.withDraws v).failureObserved = s.failureObserved := rfl
@[simp] theorem withDraws_active (v : Nat) : (s.withDraws v).active = s.active := rfl
@[simp] theorem withDraws_pend (v : Nat) : (s.withDraws v).pend = s.pend := rfl
@[simp] theorem withDraws_wt (v : Nat) : (s.withDraws v).wt = s.wt := rfl
@[simp] theorem withDraws_now (v : Nat) : (s.withDraws v).now = s.now := rfl
@[simp] theorem withDraws_trace (v : Nat) : (s.withDraws v).trace = s.trace := rfl
@[simp] theorem withDraws_refused (v : Nat) : (s.withDraws v).refused = s.refused := rfl
@[simp] theorem withDraws_refusedWith (v : Nat) : (s.withDraws v).refusedWith = s.refusedWith := rfl
@[simp] theorem withDraws_store (v : Nat) : (s.withDraws v).store = s.store := rfl
@[simp] theorem withDraws_env (v : Nat) : (s.withDraws v).env = s.env := rfl
@[simp] theorem withDraws_draws (v : Nat) : (s.withDraws v).draws = v := rfl

end Sys2Proof.Machine.State
end

