-- ==== Sys2Proof/Laws/Ops.lean ====
section
/-! SUPPORT. What each shared operation of Machine/Ops.lean does and what it leaves unchanged. -/

namespace Sys2Proof.Machine.State

variable (s : State)

@[simp] theorem setSlot_frame (n : SlotIx) (c : ChanSlot) :
    (s.setSlot n c).cfg = s.cfg ∧ (s.setSlot n c).q = s.q ∧ (s.setSlot n c).needsWakeup = s.needsWakeup ∧
      (s.setSlot n c).failureObserved = s.failureObserved ∧ (s.setSlot n c).active = s.active ∧
      (s.setSlot n c).pend = s.pend ∧ (s.setSlot n c).wt = s.wt ∧ (s.setSlot n c).now = s.now ∧
      (s.setSlot n c).trace = s.trace ∧ (s.setSlot n c).refused = s.refused ∧
      (s.setSlot n c).refusedWith = s.refusedWith ∧ (s.setSlot n c).store = s.store ∧ (s.setSlot n c).env = s.env ∧
      (s.setSlot n c).draws = s.draws := by
  refine ⟨rfl, rfl, rfl, rfl, rfl, rfl, rfl, rfl, rfl, rfl, rfl, rfl, rfl, rfl⟩

@[simp] theorem setCid_frame (n : SlotIx) (a : Cid) :
    (s.setCid n a).cfg = s.cfg ∧ (s.setCid n a).q = s.q ∧ (s.setCid n a).needsWakeup = s.needsWakeup ∧
      (s.setCid n a).failureObserved = s.failureObserved ∧ (s.setCid n a).active = s.active ∧
      (s.setCid n a).pend = s.pend ∧ (s.setCid n a).wt = s.wt ∧ (s.setCid n a).now = s.now ∧
      (s.setCid n a).trace = s.trace ∧ (s.setCid n a).refused = s.refused ∧
      (s.setCid n a).refusedWith = s.refusedWith ∧ (s.setCid n a).store = s.store ∧ (s.setCid n a).env = s.env ∧
      (s.setCid n a).draws = s.draws := by
  refine ⟨rfl, rfl, rfl, rfl, rfl, rfl, rfl, rfl, rfl, rfl, rfl, rfl, rfl, rfl⟩

@[simp] theorem setCode_frame (n : SlotIx) (c : Code) :
    (s.setCode n c).cfg = s.cfg ∧ (s.setCode n c).q = s.q ∧ (s.setCode n c).needsWakeup = s.needsWakeup ∧
      (s.setCode n c).failureObserved = s.failureObserved ∧ (s.setCode n c).active = s.active ∧
      (s.setCode n c).pend = s.pend ∧ (s.setCode n c).wt = s.wt ∧ (s.setCode n c).now = s.now ∧
      (s.setCode n c).trace = s.trace ∧ (s.setCode n c).refused = s.refused ∧
      (s.setCode n c).refusedWith = s.refusedWith ∧ (s.setCode n c).store = s.store ∧ (s.setCode n c).env = s.env ∧
      (s.setCode n c).draws = s.draws := by
  refine ⟨rfl, rfl, rfl, rfl, rfl, rfl, rfl, rfl, rfl, rfl, rfl, rfl, rfl, rfl⟩

@[simp] theorem emit_frame (e : Event) :
    (s.emit e).cfg = s.cfg ∧ (s.emit e).ch = s.ch ∧ (s.emit e).q = s.q ∧ (s.emit e).needsWakeup = s.needsWakeup ∧
      (s.emit e).failureObserved = s.failureObserved ∧ (s.emit e).active = s.active ∧ (s.emit e).pend = s.pend ∧
      (s.emit e).wt = s.wt ∧ (s.emit e).now = s.now ∧ (s.emit e).refused = s.refused ∧
      (s.emit e).refusedWith = s.refusedWith ∧ (s.emit e).store = s.store ∧ (s.emit e).env = s.env ∧
      (s.emit e).draws = s.draws := by
  refine ⟨rfl, rfl, rfl, rfl, rfl, rfl, rfl, rfl, rfl, rfl, rfl, rfl, rfl, rfl⟩

@[simp] theorem log_frame (l : LogEntry) :
    (s.log l).cfg = s.cfg ∧ (s.log l).ch = s.ch ∧ (s.log l).q = s.q ∧ (s.log l).needsWakeup = s.needsWakeup ∧
      (s.log l).failureObserved = s.failureObserved ∧ (s.log l).active = s.active ∧ (s.log l).pend = s.pend ∧
      (s.log l).wt = s.wt ∧ (s.log l).now = s.now ∧ (s.log l).refused = s.refused ∧
      (s.log l).refusedWith = s.refusedWith ∧ (s.log l).store = s.store ∧ (s.log l).env = s.env ∧
      (s.log l).draws = s.draws := by
  refine ⟨rfl, rfl, rfl, rfl, rfl, rfl, rfl, rfl, rfl, rfl, rfl, rfl, rfl, rfl⟩

@[simp] theorem respond_frame (v : Resp) :
    (s.respond v).cfg = s.cfg ∧ (s.respond v).ch = s.ch ∧ (s.respond v).q = s.q ∧
      (s.respond v).needsWakeup = s.needsWakeup ∧ (s.respond v).failureObserved = s.failureObserved ∧
      (s.respond v).active = s.active ∧ (s.respond v).pend = s.pend ∧ (s.respond v).wt = s.wt ∧
      (s.respond v).now = s.now ∧ (s.respond v).refused = s.refused ∧ (s.respond v).refusedWith = s.refusedWith ∧
      (s.respond v).store = s.store ∧ (s.respond v).env = s.env ∧ (s.respond v).draws = s.draws := by
  refine ⟨rfl, rfl, rfl, rfl, rfl, rfl, rfl, rfl, rfl, rfl, rfl, rfl, rfl, rfl⟩

@[simp] theorem notify_frame (n : SlotIx) :
    (s.notify n).cfg = s.cfg ∧ (s.notify n).ch = s.ch ∧ (s.notify n).q = s.q ∧
      (s.notify n).needsWakeup = s.needsWakeup ∧ (s.notify n).failureObserved = s.failureObserved ∧
      (s.notify n).active = s.active ∧ (s.notify n).pend = s.pend ∧ (s.notify n).wt = s.wt ∧
      (s.notify n).now = s.now ∧ (s.notify n).refused = s.refused ∧ (s.notify n).refusedWith = s.refusedWith ∧
      (s.notify n).store = s.store ∧ (s.notify n).env = s.env ∧ (s.notify n).draws = s.draws := by
  refine ⟨rfl, rfl, rfl, rfl, rfl, rfl, rfl, rfl, rfl, rfl, rfl, rfl, rfl, rfl⟩

@[simp] theorem raise_frame (e : BlockError) :
    (s.raise e).cfg = s.cfg ∧ (s.raise e).ch = s.ch ∧ (s.raise e).q = s.q ∧
      (s.raise e).needsWakeup = s.needsWakeup ∧ (s.raise e).failureObserved = s.failureObserved ∧
      (s.raise e).active = s.active ∧ (s.raise e).pend = s.pend ∧ (s.raise e).wt = s.wt ∧ (s.raise e).now = s.now ∧
      (s.raise e).refused = s.refused ∧ (s.raise e).refusedWith = s.refusedWith ∧ (s.raise e).store = s.store ∧
      (s.raise e).env = s.env ∧ (s.raise e).draws = s.draws := by
  refine ⟨rfl, rfl, rfl, rfl, rfl, rfl, rfl, rfl, rfl, rfl, rfl, rfl, rfl, rfl⟩

@[simp] theorem refuse_frame (r : RefuseReason) :
    (s.refuse r).cfg = s.cfg ∧ (s.refuse r).ch = s.ch ∧ (s.refuse r).q = s.q ∧
      (s.refuse r).needsWakeup = s.needsWakeup ∧ (s.refuse r).failureObserved = s.failureObserved ∧
      (s.refuse r).active = s.active ∧ (s.refuse r).pend = s.pend ∧ (s.refuse r).wt = s.wt ∧
      (s.refuse r).now = s.now ∧ (s.refuse r).trace = s.trace ∧ (s.refuse r).store = s.store ∧
      (s.refuse r).env = s.env ∧ (s.refuse r).draws = s.draws := by
  refine ⟨rfl, rfl, rfl, rfl, rfl, rfl, rfl, rfl, rfl, rfl, rfl, rfl, rfl⟩

@[simp] theorem bumpDraws_frame :
    (s.bumpDraws).cfg = s.cfg ∧ (s.bumpDraws).ch = s.ch ∧ (s.bumpDraws).q = s.q ∧
      (s.bumpDraws).needsWakeup = s.needsWakeup ∧ (s.bumpDraws).failureObserved = s.failureObserved ∧
      (s.bumpDraws).active = s.active ∧ (s.bumpDraws).pend = s.pend ∧ (s.bumpDraws).wt = s.wt ∧
      (s.bumpDraws).now = s.now ∧ (s.bumpDraws).trace = s.trace ∧ (s.bumpDraws).refused = s.refused ∧
      (s.bumpDraws).refusedWith = s.refusedWith ∧ (s.bumpDraws).store = s.store ∧ (s.bumpDraws).env = s.env := by
  refine ⟨rfl, rfl, rfl, rfl, rfl, rfl, rfl, rfl, rfl, rfl, rfl, rfl, rfl, rfl⟩

@[simp] theorem popTurn_frame :
    (s.popTurn).cfg = s.cfg ∧ (s.popTurn).ch = s.ch ∧ (s.popTurn).q = s.q ∧
      (s.popTurn).needsWakeup = s.needsWakeup ∧ (s.popTurn).failureObserved = s.failureObserved ∧
      (s.popTurn).active = s.active ∧ (s.popTurn).pend = s.pend ∧ (s.popTurn).wt = s.wt ∧ (s.popTurn).now = s.now ∧
      (s.popTurn).trace = s.trace ∧ (s.popTurn).refused = s.refused ∧ (s.popTurn).refusedWith = s.refusedWith ∧
      (s.popTurn).store = s.store := by
  unfold popTurn; split <;> simp

@[simp] theorem popLoad_frame :
    (s.popLoad).cfg = s.cfg ∧ (s.popLoad).ch = s.ch ∧ (s.popLoad).q = s.q ∧
      (s.popLoad).needsWakeup = s.needsWakeup ∧ (s.popLoad).failureObserved = s.failureObserved ∧
      (s.popLoad).active = s.active ∧ (s.popLoad).pend = s.pend ∧ (s.popLoad).wt = s.wt ∧ (s.popLoad).now = s.now ∧
      (s.popLoad).trace = s.trace ∧ (s.popLoad).refused = s.refused ∧ (s.popLoad).refusedWith = s.refusedWith ∧
      (s.popLoad).store = s.store := by
  unfold popLoad; split <;> simp

@[simp] theorem popSave_frame :
    (s.popSave).cfg = s.cfg ∧ (s.popSave).ch = s.ch ∧ (s.popSave).q = s.q ∧
      (s.popSave).needsWakeup = s.needsWakeup ∧ (s.popSave).failureObserved = s.failureObserved ∧
      (s.popSave).active = s.active ∧ (s.popSave).pend = s.pend ∧ (s.popSave).wt = s.wt ∧ (s.popSave).now = s.now ∧
      (s.popSave).trace = s.trace ∧ (s.popSave).refused = s.refused ∧ (s.popSave).refusedWith = s.refusedWith ∧
      (s.popSave).store = s.store := by
  unfold popSave; split <;> simp

@[simp] theorem popRand_frame :
    (s.popRand).cfg = s.cfg ∧ (s.popRand).ch = s.ch ∧ (s.popRand).q = s.q ∧
      (s.popRand).needsWakeup = s.needsWakeup ∧ (s.popRand).failureObserved = s.failureObserved ∧
      (s.popRand).active = s.active ∧ (s.popRand).pend = s.pend ∧ (s.popRand).wt = s.wt ∧ (s.popRand).now = s.now ∧
      (s.popRand).trace = s.trace ∧ (s.popRand).refused = s.refused ∧ (s.popRand).refusedWith = s.refusedWith ∧
      (s.popRand).store = s.store := by
  unfold popRand; split <;> simp

@[simp] theorem popTx_frame :
    (s.popTx).cfg = s.cfg ∧ (s.popTx).ch = s.ch ∧ (s.popTx).q = s.q ∧ (s.popTx).needsWakeup = s.needsWakeup ∧
      (s.popTx).failureObserved = s.failureObserved ∧ (s.popTx).active = s.active ∧ (s.popTx).pend = s.pend ∧
      (s.popTx).wt = s.wt ∧ (s.popTx).now = s.now ∧ (s.popTx).trace = s.trace ∧ (s.popTx).refused = s.refused ∧
      (s.popTx).refusedWith = s.refusedWith ∧ (s.popTx).store = s.store := by
  unfold popTx; split <;> simp

@[simp] theorem present_frame (x : Input) :
    (s.present x).cfg = s.cfg ∧ (s.present x).ch = s.ch ∧ (s.present x).q = s.q ∧
      (s.present x).needsWakeup = s.needsWakeup ∧ (s.present x).failureObserved = s.failureObserved ∧
      (s.present x).active = s.active ∧ (s.present x).pend = s.pend ∧ (s.present x).wt = s.wt ∧
      (s.present x).now = s.now ∧ (s.present x).trace = s.trace ∧ (s.present x).refused = s.refused ∧
      (s.present x).refusedWith = s.refusedWith ∧ (s.present x).store = s.store ∧ (s.present x).draws = s.draws := by
  refine ⟨rfl, rfl, rfl, rfl, rfl, rfl, rfl, rfl, rfl, rfl, rfl, rfl, rfl, rfl⟩

@[simp] theorem memRead_frame (key : Nat) :
    (s.memRead key).cfg = s.cfg ∧ (s.memRead key).ch = s.ch ∧ (s.memRead key).q = s.q ∧
      (s.memRead key).needsWakeup = s.needsWakeup ∧ (s.memRead key).failureObserved = s.failureObserved ∧
      (s.memRead key).active = s.active ∧ (s.memRead key).pend = s.pend ∧ (s.memRead key).wt = s.wt ∧
      (s.memRead key).now = s.now ∧ (s.memRead key).refused = s.refused ∧
      (s.memRead key).refusedWith = s.refusedWith ∧ (s.memRead key).store = s.store := by
  unfold memRead; split <;> simp

@[simp] theorem memWrite_frame (key : Nat) (r : List Byte) :
    (s.memWrite key r).cfg = s.cfg ∧ (s.memWrite key r).ch = s.ch ∧ (s.memWrite key r).q = s.q ∧
      (s.memWrite key r).needsWakeup = s.needsWakeup ∧ (s.memWrite key r).failureObserved = s.failureObserved ∧
      (s.memWrite key r).active = s.active ∧ (s.memWrite key r).pend = s.pend ∧ (s.memWrite key r).wt = s.wt ∧
      (s.memWrite key r).now = s.now ∧ (s.memWrite key r).refused = s.refused ∧
      (s.memWrite key r).refusedWith = s.refusedWith := by
  simp [memWrite]

@[simp] theorem rand32_frame :
    (s.rand32).cfg = s.cfg ∧ (s.rand32).ch = s.ch ∧ (s.rand32).q = s.q ∧ (s.rand32).needsWakeup = s.needsWakeup ∧
      (s.rand32).failureObserved = s.failureObserved ∧ (s.rand32).active = s.active ∧ (s.rand32).pend = s.pend ∧
      (s.rand32).wt = s.wt ∧ (s.rand32).now = s.now ∧ (s.rand32).refused = s.refused ∧
      (s.rand32).refusedWith = s.refusedWith ∧ (s.rand32).store = s.store := by
  simp [rand32]

@[simp] theorem txSend_frame (kind : BurstKind) (segs : List Segment) :
    (s.txSend kind segs).cfg = s.cfg ∧ (s.txSend kind segs).ch = s.ch ∧ (s.txSend kind segs).q = s.q ∧
      (s.txSend kind segs).needsWakeup = s.needsWakeup ∧ (s.txSend kind segs).failureObserved = s.failureObserved ∧
      (s.txSend kind segs).active = s.active ∧ (s.txSend kind segs).pend = s.pend ∧ (s.txSend kind segs).wt = s.wt ∧
      (s.txSend kind segs).now = s.now ∧ (s.txSend kind segs).refused = s.refused ∧
      (s.txSend kind segs).refusedWith = s.refusedWith ∧ (s.txSend kind segs).store = s.store := by
  unfold txSend; split <;> simp

@[simp] theorem schedule_frame (delay : Nat) (abbreviated : Bool) :
    (s.schedule delay abbreviated).cfg = s.cfg ∧ (s.schedule delay abbreviated).ch = s.ch ∧
      (s.schedule delay abbreviated).q = s.q ∧ (s.schedule delay abbreviated).needsWakeup = s.needsWakeup ∧
      (s.schedule delay abbreviated).failureObserved = s.failureObserved ∧
      (s.schedule delay abbreviated).active = s.active ∧ (s.schedule delay abbreviated).wt = s.wt ∧
      (s.schedule delay abbreviated).now = s.now ∧ (s.schedule delay abbreviated).trace = s.trace ∧
      (s.schedule delay abbreviated).refused = s.refused ∧
      (s.schedule delay abbreviated).refusedWith = s.refusedWith ∧ (s.schedule delay abbreviated).store = s.store ∧
      (s.schedule delay abbreviated).env = s.env ∧ (s.schedule delay abbreviated).draws = s.draws := by
  refine ⟨rfl, rfl, rfl, rfl, rfl, rfl, rfl, rfl, rfl, rfl, rfl, rfl, rfl, rfl⟩

@[simp] theorem advance_frame (micros : Nat) :
    (s.advance micros).cfg = s.cfg ∧ (s.advance micros).ch = s.ch ∧ (s.advance micros).q = s.q ∧
      (s.advance micros).needsWakeup = s.needsWakeup ∧ (s.advance micros).failureObserved = s.failureObserved ∧
      (s.advance micros).active = s.active ∧ (s.advance micros).pend = s.pend ∧ (s.advance micros).wt = s.wt ∧
      (s.advance micros).trace = s.trace ∧ (s.advance micros).refused = s.refused ∧
      (s.advance micros).refusedWith = s.refusedWith ∧ (s.advance micros).store = s.store ∧
      (s.advance micros).env = s.env ∧ (s.advance micros).draws = s.draws := by
  refine ⟨rfl, rfl, rfl, rfl, rfl, rfl, rfl, rfl, rfl, rfl, rfl, rfl, rfl, rfl⟩

/-! What the operations write. -/

@[simp] theorem emit_trace (e : Event) : (s.emit e).trace = s.trace ++ [e] := rfl
@[simp] theorem log_trace (l : LogEntry) : (s.log l).trace = s.trace ++ [.log l] := rfl
@[simp] theorem raise_trace (e : BlockError) : (s.raise e).trace = s.trace ++ [.log (.error e)] := rfl
@[simp] theorem respond_trace (v : Resp) : (s.respond v).trace = s.trace ++ [.resp v] := rfl
@[simp] theorem notify_trace (n : SlotIx) :
    (s.notify n).trace = s.trace ++ [.notify n (s.slot n).cid (s.slot n).code] := rfl
@[simp] theorem refuse_refused (r : RefuseReason) : (s.refuse r).refused = true := rfl
@[simp] theorem refuse_refusedWith (r : RefuseReason) : (s.refuse r).refusedWith = some r := rfl
@[simp] theorem setSlot_ch (n : SlotIx) (c : ChanSlot) : (s.setSlot n c).ch = s.ch.set n.toNat c := rfl
@[simp] theorem schedule_pend (delay : Nat) (abbreviated : Bool) :
    (s.schedule delay abbreviated).pend = some { due := s.now + delay, abbreviated := abbreviated } := rfl
@[simp] theorem advance_now (micros : Nat) : (s.advance micros).now = s.now + micros := rfl
@[simp] theorem bumpDraws_draws : s.bumpDraws.draws = s.draws + 1 := rfl

@[simp] theorem memRead_trace (key : Nat) :
    (s.memRead key).trace = s.trace ++ [.load key (s.memReadResult key)] := by
  unfold memRead; split <;> simp

@[simp] theorem memWrite_trace (key : Nat) (r : List Byte) :
    (s.memWrite key r).trace = s.trace ++ [.save key r s.saveReply] := by simp [memWrite]

@[simp] theorem memWrite_store (key : Nat) (r : List Byte) :
    (s.memWrite key r).store = s.storeAfter key r s.saveReply := by simp [memWrite]

@[simp] theorem rand32_trace : s.rand32.trace = s.trace ++ [.rand s.randReply] := by simp [rand32]

@[simp] theorem txSend_trace (kind : BurstKind) (segs : List Segment) :
    (s.txSend kind segs).trace = s.trace ++ [.tx kind segs s.txReply] := by
  unfold txSend; split <;> simp

/-! The channel file. -/

/-- A slot depends on the channel file alone. -/
theorem slot_congr {s t : State} (h : t.ch = s.ch) (n : SlotIx) : t.slot n = s.slot n := by
  simp [slot, h]

/-- A slot inside the file reads as it was written. -/
theorem slot_setSlot_same (n : SlotIx) (c : ChanSlot) (h : n.toNat < s.ch.length) :
    (s.setSlot n c).slot n = c := by
  simp [slot, List.getD, h]

/-- Writing one slot leaves every other slot alone. -/
theorem slot_setSlot_other (n m : SlotIx) (c : ChanSlot) (h : m ≠ n) :
    (s.setSlot n c).slot m = s.slot m := by
  have hn : n.toNat ≠ m.toNat := fun e => h (BitVec.eq_of_toNat_eq e.symm)
  simp [slot, List.getD, List.getElem?_set_ne hn]

@[simp] theorem setSlot_length (n : SlotIx) (c : ChanSlot) :
    (s.setSlot n c).ch.length = s.ch.length := by simp

theorem setCid_slot_same (n : SlotIx) (a : Cid) (h : n.toNat < s.ch.length) :
    (s.setCid n a).slot n = { s.slot n with cid := a } := slot_setSlot_same s n _ h

theorem setCid_slot_other (n m : SlotIx) (a : Cid) (h : m ≠ n) :
    (s.setCid n a).slot m = s.slot m := slot_setSlot_other s n m _ h

theorem setCode_slot_same (n : SlotIx) (c : Code) (h : n.toNat < s.ch.length) :
    (s.setCode n c).slot n = { s.slot n with code := c } := slot_setSlot_same s n _ h

theorem setCode_slot_other (n m : SlotIx) (c : Code) (h : m ≠ n) :
    (s.setCode n c).slot m = s.slot m := slot_setSlot_other s n m _ h

@[simp] theorem setCid_length (n : SlotIx) (a : Cid) : (s.setCid n a).ch.length = s.ch.length :=
  setSlot_length s n _

@[simp] theorem setCode_length (n : SlotIx) (c : Code) : (s.setCode n c).ch.length = s.ch.length :=
  setSlot_length s n _

/-! What the environment presents. -/

/-- Presenting an operation makes it the next transition. -/
@[simp] theorem nextTurn_present (x : Input) : (s.present x).nextTurn = .input x := rfl

/-- Presenting an operation and taking it up leaves the state as it was. -/
@[simp] theorem popTurn_present (x : Input) : (s.present x).popTurn = s := rfl

/-! Drawing an answer leaves the transitions presented alone. -/

@[simp] theorem popLoad_turns : s.popLoad.env.turns = s.env.turns := by
  unfold popLoad
  split <;> rfl

@[simp] theorem popSave_turns : s.popSave.env.turns = s.env.turns := by
  unfold popSave
  split <;> rfl

@[simp] theorem popRand_turns : s.popRand.env.turns = s.env.turns := by
  unfold popRand
  split <;> rfl

@[simp] theorem popTx_turns : s.popTx.env.turns = s.env.turns := by
  unfold popTx
  split <;> rfl

@[simp] theorem memRead_turns (key : Nat) : (s.memRead key).env.turns = s.env.turns := by
  unfold memRead
  split <;> simp

@[simp] theorem memWrite_turns (key : Nat) (r : List Byte) : (s.memWrite key r).env.turns = s.env.turns := by
  simp [memWrite]

@[simp] theorem rand32_turns : s.rand32.env.turns = s.env.turns := by simp [rand32]

@[simp] theorem txSend_turns (kind : BurstKind) (segs : List Segment) :
    (s.txSend kind segs).env.turns = s.env.turns := by
  unfold txSend
  split <;> simp

/-- Taking up a presented transition: it is the next one, and only the list of transitions gets shorter. -/
theorem popTurn_cons {t : Turn} {rest : List Turn} (h : s.env.turns = t :: rest) :
    s.nextTurn = t ∧ s.popTurn = s.withEnv { s.env with turns := rest } := by
  simp [popTurn, nextTurn, h]

/-- A free answer depends on what the environment presents and on the draw counter alone. -/
theorem replies_congr {s t : State} (he : t.env = s.env) (hd : t.draws = s.draws) :
    t.saveReply = s.saveReply ∧ t.loadReply = s.loadReply ∧ t.randReply = s.randReply ∧
      t.freeTxReply = s.freeTxReply ∧ t.nextTurn = s.nextTurn := by
  simp [saveReply, loadReply, randReply, freeTxReply, nextTurn, he, hd]

/-- The TX port's answer depends on the parameters, the environment and the draw counter alone. -/
theorem txReply_congr {s t : State} (hc : t.cfg = s.cfg) (he : t.env = s.env) (hd : t.draws = s.draws) :
    t.txReply = s.txReply := by
  simp [txReply, hc, (replies_congr he hd).2.2.2.1]

/-- With a carrier every burst is rejected (R285). -/
theorem txReply_of_carrier (h : s.cfg.txCarrier ≠ 0) : s.txReply = false := by simp [txReply, h]

end Sys2Proof.Machine.State
end

