-- ==== Sys2Proof/Laws/Channel.lean ====
section
/-! SUPPORT. What the operations of RollingChannel do and leave unchanged. -/

namespace Sys2Proof.Machine.State

variable (s : State)

@[simp] theorem applyCid_frame (n : SlotIx) (a : Option Cid) :
    (s.applyCid n a).cfg = s.cfg ∧ (s.applyCid n a).q = s.q ∧ (s.applyCid n a).needsWakeup = s.needsWakeup ∧
      (s.applyCid n a).failureObserved = s.failureObserved ∧ (s.applyCid n a).active = s.active ∧
      (s.applyCid n a).pend = s.pend ∧ (s.applyCid n a).wt = s.wt ∧ (s.applyCid n a).now = s.now ∧
      (s.applyCid n a).refused = s.refused ∧ (s.applyCid n a).refusedWith = s.refusedWith ∧
      (s.applyCid n a).store = s.store ∧ (s.applyCid n a).env = s.env ∧ (s.applyCid n a).draws = s.draws := by
  cases a <;> simp [applyCid]

@[simp] theorem applyCode_frame (n : SlotIx) (c : Option Code) :
    (s.applyCode n c).cfg = s.cfg ∧ (s.applyCode n c).q = s.q ∧ (s.applyCode n c).needsWakeup = s.needsWakeup ∧
      (s.applyCode n c).failureObserved = s.failureObserved ∧ (s.applyCode n c).active = s.active ∧
      (s.applyCode n c).pend = s.pend ∧ (s.applyCode n c).wt = s.wt ∧ (s.applyCode n c).now = s.now ∧
      (s.applyCode n c).refused = s.refused ∧ (s.applyCode n c).refusedWith = s.refusedWith ∧
      (s.applyCode n c).store = s.store ∧ (s.applyCode n c).env = s.env ∧ (s.applyCode n c).draws = s.draws := by
  cases c <;> simp [applyCode]

@[simp] theorem finishInit_frame (n : SlotIx) :
    (s.finishInit n).cfg = s.cfg ∧ (s.finishInit n).q = s.q ∧ (s.finishInit n).needsWakeup = s.needsWakeup ∧
      (s.finishInit n).failureObserved = s.failureObserved ∧ (s.finishInit n).active = s.active ∧
      (s.finishInit n).pend = s.pend ∧ (s.finishInit n).wt = s.wt ∧ (s.finishInit n).now = s.now ∧
      (s.finishInit n).refused = s.refused ∧ (s.finishInit n).refusedWith = s.refusedWith ∧
      (s.finishInit n).store = s.store ∧ (s.finishInit n).env = s.env ∧ (s.finishInit n).draws = s.draws := by
  simp [finishInit]

@[simp] theorem initLoaded_frame (n : SlotIx) (r : List Byte) :
    (s.initLoaded n r).cfg = s.cfg ∧ (s.initLoaded n r).q = s.q ∧ (s.initLoaded n r).needsWakeup = s.needsWakeup ∧
      (s.initLoaded n r).failureObserved = s.failureObserved ∧ (s.initLoaded n r).active = s.active ∧
      (s.initLoaded n r).pend = s.pend ∧ (s.initLoaded n r).wt = s.wt ∧ (s.initLoaded n r).now = s.now ∧
      (s.initLoaded n r).refused = s.refused ∧ (s.initLoaded n r).refusedWith = s.refusedWith ∧
      (s.initLoaded n r).store = s.store ∧ (s.initLoaded n r).env = s.env ∧ (s.initLoaded n r).draws = s.draws := by
  simp [initLoaded]

@[simp] theorem initSeeded_frame (n : SlotIx) :
    (s.initSeeded n).cfg = s.cfg ∧ (s.initSeeded n).q = s.q ∧ (s.initSeeded n).needsWakeup = s.needsWakeup ∧
      (s.initSeeded n).failureObserved = s.failureObserved ∧ (s.initSeeded n).active = s.active ∧
      (s.initSeeded n).pend = s.pend ∧ (s.initSeeded n).wt = s.wt ∧ (s.initSeeded n).now = s.now ∧
      (s.initSeeded n).refused = s.refused ∧ (s.initSeeded n).refusedWith = s.refusedWith ∧
      (s.initSeeded n).store = s.store := by
  simp [initSeeded]

@[simp] theorem initSlot_frame (n : SlotIx) :
    (s.initSlot n).cfg = s.cfg ∧ (s.initSlot n).q = s.q ∧ (s.initSlot n).needsWakeup = s.needsWakeup ∧
      (s.initSlot n).failureObserved = s.failureObserved ∧ (s.initSlot n).active = s.active ∧
      (s.initSlot n).pend = s.pend ∧ (s.initSlot n).wt = s.wt ∧ (s.initSlot n).now = s.now ∧
      (s.initSlot n).refused = s.refused ∧ (s.initSlot n).refusedWith = s.refusedWith ∧
      (s.initSlot n).store = s.store := by
  unfold initSlot; split <;> simp

@[simp] theorem persistSlot_frame (n : SlotIx) :
    (s.persistSlot n).cfg = s.cfg ∧ (s.persistSlot n).ch = s.ch ∧ (s.persistSlot n).q = s.q ∧
      (s.persistSlot n).needsWakeup = s.needsWakeup ∧ (s.persistSlot n).failureObserved = s.failureObserved ∧
      (s.persistSlot n).active = s.active ∧ (s.persistSlot n).pend = s.pend ∧ (s.persistSlot n).wt = s.wt ∧
      (s.persistSlot n).now = s.now ∧ (s.persistSlot n).refused = s.refused ∧
      (s.persistSlot n).refusedWith = s.refusedWith := by
  unfold persistSlot; dsimp only; split <;> simp

@[simp] theorem consumeBody_frame (n : SlotIx) :
    (s.consumeBody n).cfg = s.cfg ∧ (s.consumeBody n).q = s.q ∧ (s.consumeBody n).needsWakeup = s.needsWakeup ∧
      (s.consumeBody n).failureObserved = s.failureObserved ∧ (s.consumeBody n).active = s.active ∧
      (s.consumeBody n).pend = s.pend ∧ (s.consumeBody n).wt = s.wt ∧ (s.consumeBody n).now = s.now ∧
      (s.consumeBody n).refused = s.refused ∧ (s.consumeBody n).refusedWith = s.refusedWith := by
  simp [consumeBody]

@[simp] theorem respondChannel_frame (n : SlotIx) :
    (s.respondChannel n).cfg = s.cfg ∧ (s.respondChannel n).ch = s.ch ∧ (s.respondChannel n).q = s.q ∧
      (s.respondChannel n).needsWakeup = s.needsWakeup ∧ (s.respondChannel n).failureObserved = s.failureObserved ∧
      (s.respondChannel n).active = s.active ∧ (s.respondChannel n).pend = s.pend ∧ (s.respondChannel n).wt = s.wt ∧
      (s.respondChannel n).now = s.now ∧ (s.respondChannel n).refused = s.refused ∧
      (s.respondChannel n).refusedWith = s.refusedWith ∧ (s.respondChannel n).store = s.store ∧
      (s.respondChannel n).env = s.env ∧ (s.respondChannel n).draws = s.draws := by
  simp [respondChannel]

@[simp] theorem configNothing_frame (n : SlotIx) :
    (s.configNothing n).cfg = s.cfg ∧ (s.configNothing n).ch = s.ch ∧ (s.configNothing n).q = s.q ∧
      (s.configNothing n).needsWakeup = s.needsWakeup ∧ (s.configNothing n).failureObserved = s.failureObserved ∧
      (s.configNothing n).active = s.active ∧ (s.configNothing n).pend = s.pend ∧ (s.configNothing n).wt = s.wt ∧
      (s.configNothing n).now = s.now ∧ (s.configNothing n).refused = s.refused ∧
      (s.configNothing n).refusedWith = s.refusedWith ∧ (s.configNothing n).store = s.store ∧
      (s.configNothing n).env = s.env ∧ (s.configNothing n).draws = s.draws := by
  simp [configNothing]

@[simp] theorem configFields_frame (n : SlotIx) (a : Option Cid) (c : Option Code) :
    (s.configFields n a c).cfg = s.cfg ∧ (s.configFields n a c).q = s.q ∧
      (s.configFields n a c).needsWakeup = s.needsWakeup ∧
      (s.configFields n a c).failureObserved = s.failureObserved ∧ (s.configFields n a c).active = s.active ∧
      (s.configFields n a c).pend = s.pend ∧ (s.configFields n a c).wt = s.wt ∧ (s.configFields n a c).now = s.now ∧
      (s.configFields n a c).refused = s.refused ∧ (s.configFields n a c).refusedWith = s.refusedWith := by
  simp [configFields]

/-! What a save does. -/

/-- Saving a slot adds the save, its possible error and the notification to the trace (R71, R133, R135). -/
theorem persistSlot_trace (n : SlotIx) :
    (s.persistSlot n).trace = s.trace ++
      ([.save (s.keyOf n) (recordOf (s.slot n).cid (s.slot n).code) s.saveReply] ++
        (if s.saveReply then [] else [.log (.error (.persistenceError n))]) ++
        [.notify n (s.slot n).cid (s.slot n).code]) := by
  unfold persistSlot
  dsimp only
  have hs : ∀ t : State, t.ch = s.ch → t.slot n = s.slot n := fun t h => slot_congr h n
  split <;> simp [*]

/-- Saving a slot writes its record where the save succeeded (R63). -/
theorem persistSlot_store (n : SlotIx) :
    (s.persistSlot n).store =
      s.storeAfter (s.keyOf n) (recordOf (s.slot n).cid (s.slot n).code) s.saveReply := by
  unfold persistSlot
  dsimp only
  split <;> simp

/-- Every mutation keeps the store in canonical form. -/
theorem persistSlot_wf (n : SlotIx) (h : Memory.wf s.store) : Memory.wf (s.persistSlot n).store := by
  rw [persistSlot_store]
  exact Memory.storeAfter_wf s _ _ _ h rfl

/-- A consumed slot holds the counter's new value (R131). -/
theorem consumeBody_slot_same (n : SlotIx) (h : n.toNat < s.ch.length) :
    (s.consumeBody n).slot n = { s.slot n with code := (consumeF (s.slot n).code).2 } := by
  rw [← setCode_slot_same s n _ h]
  exact slot_congr (by simp [consumeBody]) n

/-- CONSUME leaves every other slot alone (R22). -/
theorem consumeBody_slot_other (n m : SlotIx) (h : m ≠ n) : (s.consumeBody n).slot m = s.slot m := by
  rw [← setCode_slot_other s n m (consumeF (s.slot n).code).2 h]
  exact slot_congr (by simp [consumeBody]) m

@[simp] theorem consumeBody_length (n : SlotIx) : (s.consumeBody n).ch.length = s.ch.length := by
  simp [consumeBody]

@[simp] theorem persistSlot_turns (n : SlotIx) : (s.persistSlot n).env.turns = s.env.turns := by
  unfold persistSlot
  dsimp only
  split <;> simp

@[simp] theorem consumeBody_turns (n : SlotIx) : (s.consumeBody n).env.turns = s.env.turns := by
  simp [consumeBody]

@[simp] theorem configFields_turns (n : SlotIx) (a : Option Cid) (c : Option Code) :
    (s.configFields n a c).env.turns = s.env.turns := by simp [configFields]

@[simp] theorem initSlot_turns (n : SlotIx) : (s.initSlot n).env.turns = s.env.turns := by
  unfold initSlot
  split <;> simp [initLoaded, initSeeded, finishInit]

/-- Every operation answers the file as long as it was. -/
@[simp] theorem applyCid_length (n : SlotIx) (a : Option Cid) :
    (s.applyCid n a).ch.length = s.ch.length := by
  cases a <;> simp [applyCid]

@[simp] theorem applyCode_length (n : SlotIx) (c : Option Code) :
    (s.applyCode n c).ch.length = s.ch.length := by
  cases c <;> simp [applyCode]

@[simp] theorem configFields_length (n : SlotIx) (a : Option Cid) (c : Option Code) :
    (s.configFields n a c).ch.length = s.ch.length := by
  simp [configFields]

@[simp] theorem finishInit_length (n : SlotIx) : (s.finishInit n).ch.length = s.ch.length := by
  simp [finishInit]

@[simp] theorem initSlot_length (n : SlotIx) : (s.initSlot n).ch.length = s.ch.length := by
  unfold initSlot
  split <;> simp [initLoaded, initSeeded]

end Sys2Proof.Machine.State

namespace Sys2Proof.Machine

/-- CONSUME never returns 0 (R134). -/
theorem nextCode_ne_zero (c : Code) : nextCode c ≠ 0 := by
  unfold nextCode
  split
  · decide
  · assumption

end Sys2Proof.Machine
end

