-- ==== Sys2Proof/Laws/Decode.lean ====
section
/-! SUPPORT. The fields of a host word (30_encoding.md R91) as arithmetic on the word, and reading them back from
a word put together from its fields. -/

namespace Sys2Proof.Laws

/-- Putting bit vectors side by side adds their values, the left one shifted. -/
theorem toNat_append_add {m n : Nat} (x : BitVec m) (y : BitVec n) :
    (x ++ y).toNat = x.toNat * 2 ^ n + y.toNat := by
  rw [BitVec.toNat_append, Nat.shiftLeft_eq, Nat.mul_comm, Nat.two_pow_add_eq_or_of_lt y.isLt]

theorem hostWord_toNat (a : Cid) (b : Code) (c : SlotIx) (d e : Nibble) :
    (hostWord a b c d e).toNat =
      a.toNat * 2 ^ 32 + b.toNat * 2 ^ 16 + c.toNat * 2 ^ 8 + d.toNat * 2 ^ 4 + e.toNat := by
  have h : (a ++ b ++ c ++ d ++ e).toNat =
      (((a.toNat * 2 ^ 16 + b.toNat) * 2 ^ 8 + c.toNat) * 2 ^ 4 + d.toNat) * 2 ^ 4 + e.toNat := by
    rw [toNat_append_add, toNat_append_add, toNat_append_add, toNat_append_add]
  exact h.trans (by omega)

theorem reservedWord_toNat (r : BitVec 60) (e : Nibble) :
    (reservedWord r e).toNat = r.toNat * 2 ^ 4 + e.toNat := toNat_append_add r e

theorem waveWord_toNat (o : Frame) (d e : Nibble) :
    (waveWord o d e).toNat =
      o.b6.toNat * 2 ^ 56 + o.b5.toNat * 2 ^ 48 + o.b4.toNat * 2 ^ 40 + o.b3.toNat * 2 ^ 32 +
        o.b2.toNat * 2 ^ 24 + o.b1.toNat * 2 ^ 16 + o.b0.toNat * 2 ^ 8 + d.toNat * 2 ^ 4 + e.toNat := by
  have h : (o.b6 ++ o.b5 ++ o.b4 ++ o.b3 ++ o.b2 ++ o.b1 ++ o.b0 ++ d ++ e).toNat =
      (((((((o.b6.toNat * 2 ^ 8 + o.b5.toNat) * 2 ^ 8 + o.b4.toNat) * 2 ^ 8 + o.b3.toNat) * 2 ^ 8 +
        o.b2.toNat) * 2 ^ 8 + o.b1.toNat) * 2 ^ 8 + o.b0.toNat) * 2 ^ 4 + d.toNat) * 2 ^ 4 + e.toNat := by
    simp only [toNat_append_add]
  exact h.trans (by omega)

/-- A field of a word as arithmetic. -/
theorem field_toNat (w : HostWord) (start len : Nat) :
    (w.extractLsb' start len).toNat = w.toNat / 2 ^ start % 2 ^ len := by
  rw [BitVec.extractLsb'_toNat, Nat.shiftRight_eq_div_pow]

/-- The fields of a word put together from its fields. -/
theorem fields_hostWord (a : Cid) (b : Code) (c : SlotIx) (d e : Nibble) :
    opField (hostWord a b c d e) = e ∧ subField (hostWord a b c d e) = d ∧
      chField (hostWord a b c d e) = c ∧ codeField (hostWord a b c d e) = b ∧
      cidField (hostWord a b c d e) = a := by
  have ha := a.isLt; have hb := b.isLt; have hc := c.isLt; have hd := d.isLt; have he := e.isLt
  refine ⟨?_, ?_, ?_, ?_, ?_⟩ <;> apply BitVec.eq_of_toNat_eq <;>
    simp only [opField, subField, chField, codeField, cidField, field_toNat, hostWord_toNat] <;> omega

theorem fields_reservedWord (r : BitVec 60) (e : Nibble) :
    opField (reservedWord r e) = e ∧ restField (reservedWord r e) = r := by
  have hr := r.isLt; have he := e.isLt
  refine ⟨?_, ?_⟩ <;> apply BitVec.eq_of_toNat_eq <;>
    simp only [opField, restField, field_toNat, reservedWord_toNat] <;> omega

theorem fields_waveWord (o : Frame) (d e : Nibble) :
    opField (waveWord o d e) = e ∧ subField (waveWord o d e) = d ∧ frameField (waveWord o d e) = o := by
  have h0 := o.b0.isLt; have h1 := o.b1.isLt; have h2 := o.b2.isLt; have h3 := o.b3.isLt
  have h4 := o.b4.isLt; have h5 := o.b5.isLt; have h6 := o.b6.isLt; have hd := d.isLt; have he := e.isLt
  refine ⟨?_, ?_, ?_⟩
  · apply BitVec.eq_of_toNat_eq; simp only [opField, field_toNat, waveWord_toNat]; omega
  · apply BitVec.eq_of_toNat_eq; simp only [subField, field_toNat, waveWord_toNat]; omega
  · obtain ⟨b0, b1, b2, b3, b4, b5, b6⟩ := o
    simp only [frameField, Frame.mk.injEq]
    refine ⟨?_, ?_, ?_, ?_, ?_, ?_, ?_⟩ <;> apply BitVec.eq_of_toNat_eq <;>
      simp only [field_toNat, waveWord_toNat] at * <;> omega

/-- Every word is put together from its fields. -/
theorem hostWord_fields (w : HostWord) :
    hostWord (cidField w) (codeField w) (chField w) (subField w) (opField w) = w := by
  apply BitVec.eq_of_toNat_eq
  have hw := w.isLt
  simp only [opField, subField, chField, codeField, cidField, field_toNat, hostWord_toNat]
  omega

theorem reservedWord_fields (w : HostWord) : reservedWord (restField w) (opField w) = w := by
  apply BitVec.eq_of_toNat_eq
  have hw := w.isLt
  simp only [opField, restField, field_toNat, reservedWord_toNat]
  omega

theorem waveWord_fields (w : HostWord) : waveWord (frameField w) (subField w) (opField w) = w := by
  apply BitVec.eq_of_toNat_eq
  have hw : w.toNat / 2 ^ 64 = 0 := Nat.div_eq_of_lt w.isLt
  simp only [opField, subField, frameField, field_toNat, waveWord_toNat]
  have h0 : w.toNat = w.toNat / 2 ^ 8 * 2 ^ 8 + w.toNat / 2 ^ 4 % 2 ^ 4 * 2 ^ 4 + w.toNat / 2 ^ 0 % 2 ^ 4 := by
    omega
  have h1 : w.toNat / 2 ^ 8 = w.toNat / 2 ^ 16 * 2 ^ 8 + w.toNat / 2 ^ 8 % 2 ^ 8 := by omega
  have h2 : w.toNat / 2 ^ 16 = w.toNat / 2 ^ 24 * 2 ^ 8 + w.toNat / 2 ^ 16 % 2 ^ 8 := by omega
  have h3 : w.toNat / 2 ^ 24 = w.toNat / 2 ^ 32 * 2 ^ 8 + w.toNat / 2 ^ 24 % 2 ^ 8 := by omega
  have h4 : w.toNat / 2 ^ 32 = w.toNat / 2 ^ 40 * 2 ^ 8 + w.toNat / 2 ^ 32 % 2 ^ 8 := by omega
  have h5 : w.toNat / 2 ^ 40 = w.toNat / 2 ^ 48 * 2 ^ 8 + w.toNat / 2 ^ 40 % 2 ^ 8 := by omega
  have h6 : w.toNat / 2 ^ 48 = w.toNat / 2 ^ 56 * 2 ^ 8 + w.toNat / 2 ^ 48 % 2 ^ 8 := by omega
  have h7 : w.toNat / 2 ^ 56 = w.toNat / 2 ^ 64 * 2 ^ 8 + w.toNat / 2 ^ 56 % 2 ^ 8 := by omega
  generalize w.toNat / 2 ^ 8 % 2 ^ 8 = c0 at *
  generalize w.toNat / 2 ^ 16 % 2 ^ 8 = c1 at *
  generalize w.toNat / 2 ^ 24 % 2 ^ 8 = c2 at *
  generalize w.toNat / 2 ^ 32 % 2 ^ 8 = c3 at *
  generalize w.toNat / 2 ^ 40 % 2 ^ 8 = c4 at *
  generalize w.toNat / 2 ^ 48 % 2 ^ 8 = c5 at *
  generalize w.toNat / 2 ^ 56 % 2 ^ 8 = c6 at *
  generalize w.toNat / 2 ^ 4 % 2 ^ 4 = d at *
  generalize w.toNat / 2 ^ 0 % 2 ^ 4 = e at *
  rw [hw] at h7
  rw [h7] at h6
  rw [h6] at h5
  rw [h5] at h4
  rw [h4] at h3
  rw [h3] at h2
  rw [h2] at h1
  rw [h1] at h0
  exact Eq.symm (h0.trans (by ring))

/-- A nibble is one of sixteen values. -/
theorem nibble_cases (d : Nibble) :
    d = 0x0#4 ∨ d = 0x1#4 ∨ d = 0x2#4 ∨ d = 0x3#4 ∨ d = 0x4#4 ∨ d = 0x5#4 ∨ d = 0x6#4 ∨ d = 0x7#4 ∨
      d = 0x8#4 ∨ d = 0x9#4 ∨ d = 0xA#4 ∨ d = 0xB#4 ∨ d = 0xC#4 ∨ d = 0xD#4 ∨ d = 0xE#4 ∨ d = 0xF#4 := by
  revert d
  decide

/-! The decoder, one opcode at a time (R97). -/

theorem decodeWord_op0 (w : HostWord) (h : opField w = 0x0#4) :
    decodeWord w = .instr (.reservedOp0 (restField w)) := by
  unfold decodeWord
  rw [h]
  rfl

theorem decodeWord_op1 (w : HostWord) (h : opField w = 0x1#4) :
    decodeWord w =
      requireField (subField w == 0 && codeField w == 0 && cidField w == 0) (.init (chField w)) := by
  unfold decodeWord
  rw [h]
  rfl

theorem decodeWord_op2 (w : HostWord) (h : opField w = 0x2#4) :
    decodeWord w =
      requireField (subField w == 0 && codeField w == 0 && cidField w == 0) (.consume (chField w)) := by
  unfold decodeWord
  rw [h]
  rfl

theorem decodeWord_op3 (w : HostWord) (h : opField w = 0x3#4) :
    decodeWord w = decodeConfig w := by
  unfold decodeWord
  rw [h]
  rfl

theorem decodeWord_op4 (w : HostWord) (h : opField w = 0x4#4) :
    decodeWord w =
      requireField (codeField w == 0 && cidField w == 0) (controlOf (subField w) (chField w)) := by
  unfold decodeWord
  rw [h]
  rfl

theorem decodeWord_op5 (w : HostWord) (h : opField w = 0x5#4) :
    decodeWord w =
      requireField (subField w == 0 && codeField w == 0 && cidField w == 0) (.program (chField w)) := by
  unfold decodeWord
  rw [h]
  rfl

theorem decodeWord_op6 (w : HostWord) (h : opField w = 0x6#4) :
    decodeWord w = requireField (chField w == 0) (.encode (subField w) (cidField w) (codeField w)) := by
  unfold decodeWord
  rw [h]
  rfl

theorem decodeWord_op7 (w : HostWord) (h : opField w = 0x7#4) :
    decodeWord w = decodeWave w := by
  unfold decodeWord
  rw [h]
  rfl

theorem decodeWord_op8 (w : HostWord) (h : opField w = 0x8#4) :
    decodeWord w = .instr (.reservedOp8 (restField w)) := by
  unfold decodeWord
  rw [h]
  rfl

theorem decodeWord_op9 (w : HostWord) (h : opField w = 0x9#4) :
    decodeWord w = .instr (.reservedOp9 (restField w)) := by
  unfold decodeWord
  rw [h]
  rfl

theorem decodeWord_opA (w : HostWord) (h : opField w = 0xA#4) :
    decodeWord w = .instr (.reservedOpA (restField w)) := by
  unfold decodeWord
  rw [h]
  rfl

theorem decodeWord_opB (w : HostWord) (h : opField w = 0xB#4) :
    decodeWord w = .instr (.reservedOpB (restField w)) := by
  unfold decodeWord
  rw [h]
  rfl

theorem decodeWord_opC (w : HostWord) (h : opField w = 0xC#4) :
    decodeWord w = .instr (.reservedOpC (restField w)) := by
  unfold decodeWord
  rw [h]
  rfl

theorem decodeWord_opD (w : HostWord) (h : opField w = 0xD#4) :
    decodeWord w = .instr (.reservedOpD (restField w)) := by
  unfold decodeWord
  rw [h]
  rfl

theorem decodeWord_opE (w : HostWord) (h : opField w = 0xE#4) :
    decodeWord w = .instr (.reservedOpE (restField w)) := by
  unfold decodeWord
  rw [h]
  rfl

theorem decodeWord_opF (w : HostWord) (h : opField w = 0xF#4) :
    decodeWord w = .instr (.reservedOpF (restField w)) := by
  unfold decodeWord
  rw [h]
  rfl

/-- CONTROL's encoding is its request in `SUB`, whatever the request (R94). -/
theorem encode_controlOf (sub : Nibble) (n : SlotIx) :
    encode (controlOf sub n) = .word (hostWord 0 0 n sub 0x4) := by
  rcases nibble_cases sub with h | h | h | h | h | h | h | h | h | h | h | h | h | h | h | h <;>
    subst h <;> rfl

/-- A checked operation was decoded only where the check held. -/
theorem requireField_instr {c : Bool} {i j : Instr} (h : requireField c i = .instr j) : c = true ∧ i = j := by
  unfold requireField at h
  split at h
  · exact ⟨‹_›, Decoded.instr.inj h⟩
  · cases h

end Sys2Proof.Laws
end

