-- ==== Sys2Proof/Laws/Scheduler.lean ====
section
/-! SUPPORT. What the operations of TransmissionScheduler do and leave unchanged, and RESET. -/

namespace Sys2Proof.Machine.State

variable (s : State)

@[simp] theorem activate_frame :
    (s.activate).cfg = s.cfg ∧ (s.activate).ch = s.ch ∧ (s.activate).q = s.q ∧
      (s.activate).needsWakeup = s.needsWakeup ∧ (s.activate).failureObserved = s.failureObserved ∧
      (s.activate).wt = s.wt ∧ (s.activate).now = s.now ∧ (s.activate).trace = s.trace ∧
      (s.activate).refused = s.refused ∧ (s.activate).refusedWith = s.refusedWith ∧ (s.activate).store = s.store ∧
      (s.activate).env = s.env ∧ (s.activate).draws = s.draws := by
  unfold activate; split <;> simp

@[simp] theorem goIdle_frame :
    (s.goIdle).cfg = s.cfg ∧ (s.goIdle).ch = s.ch ∧ (s.goIdle).q = s.q ∧ (s.goIdle).needsWakeup = s.needsWakeup ∧
      (s.goIdle).failureObserved = s.failureObserved ∧ (s.goIdle).pend = s.pend ∧ (s.goIdle).wt = s.wt ∧
      (s.goIdle).now = s.now ∧ (s.goIdle).trace = s.trace ∧ (s.goIdle).refused = s.refused ∧
      (s.goIdle).refusedWith = s.refusedWith ∧ (s.goIdle).store = s.store ∧ (s.goIdle).env = s.env ∧
      (s.goIdle).draws = s.draws := by
  simp [goIdle]

@[simp] theorem observeFailure_frame :
    (s.observeFailure).cfg = s.cfg ∧ (s.observeFailure).ch = s.ch ∧ (s.observeFailure).q = s.q ∧
      (s.observeFailure).needsWakeup = s.needsWakeup ∧ (s.observeFailure).active = s.active ∧
      (s.observeFailure).wt = s.wt ∧ (s.observeFailure).now = s.now ∧ (s.observeFailure).trace = s.trace ∧
      (s.observeFailure).refused = s.refused ∧ (s.observeFailure).refusedWith = s.refusedWith ∧
      (s.observeFailure).store = s.store ∧ (s.observeFailure).env = s.env ∧ (s.observeFailure).draws = s.draws := by
  simp [observeFailure]

@[simp] theorem armCooldown_frame :
    (s.armCooldown).cfg = s.cfg ∧ (s.armCooldown).ch = s.ch ∧ (s.armCooldown).q = s.q ∧
      (s.armCooldown).failureObserved = s.failureObserved ∧ (s.armCooldown).active = s.active ∧
      (s.armCooldown).pend = s.pend ∧ (s.armCooldown).now = s.now ∧ (s.armCooldown).trace = s.trace ∧
      (s.armCooldown).refused = s.refused ∧ (s.armCooldown).refusedWith = s.refusedWith ∧
      (s.armCooldown).store = s.store ∧ (s.armCooldown).env = s.env ∧ (s.armCooldown).draws = s.draws := by
  simp [armCooldown]

@[simp] theorem expireCooldown_frame :
    (s.expireCooldown).cfg = s.cfg ∧ (s.expireCooldown).ch = s.ch ∧ (s.expireCooldown).q = s.q ∧
      (s.expireCooldown).failureObserved = s.failureObserved ∧ (s.expireCooldown).active = s.active ∧
      (s.expireCooldown).pend = s.pend ∧ (s.expireCooldown).now = s.now ∧ (s.expireCooldown).trace = s.trace ∧
      (s.expireCooldown).refused = s.refused ∧ (s.expireCooldown).refusedWith = s.refusedWith ∧
      (s.expireCooldown).store = s.store ∧ (s.expireCooldown).env = s.env ∧ (s.expireCooldown).draws = s.draws := by
  simp [expireCooldown]

@[simp] theorem enqueue_frame (ctl : Nibble) (n : SlotIx) (maxrep : BitVec 8) :
    (s.enqueue ctl n maxrep).cfg = s.cfg ∧ (s.enqueue ctl n maxrep).needsWakeup = s.needsWakeup ∧
      (s.enqueue ctl n maxrep).failureObserved = s.failureObserved ∧ (s.enqueue ctl n maxrep).wt = s.wt ∧
      (s.enqueue ctl n maxrep).now = s.now ∧ (s.enqueue ctl n maxrep).refused = s.refused ∧
      (s.enqueue ctl n maxrep).refusedWith = s.refusedWith := by
  simp [enqueue]

@[simp] theorem cancelBatch_frame :
    (s.cancelBatch).cfg = s.cfg ∧ (s.cancelBatch).ch = s.ch ∧ (s.cancelBatch).needsWakeup = s.needsWakeup ∧
      (s.cancelBatch).pend = s.pend ∧ (s.cancelBatch).wt = s.wt ∧ (s.cancelBatch).now = s.now ∧
      (s.cancelBatch).refused = s.refused ∧ (s.cancelBatch).refusedWith = s.refusedWith ∧
      (s.cancelBatch).store = s.store ∧ (s.cancelBatch).env = s.env ∧ (s.cancelBatch).draws = s.draws := by
  simp [cancelBatch]

@[simp] theorem wakeStep_frame :
    (s.wakeStep).cfg = s.cfg ∧ (s.wakeStep).ch = s.ch ∧ (s.wakeStep).q = s.q ∧ (s.wakeStep).active = s.active ∧
      (s.wakeStep).now = s.now ∧ (s.wakeStep).refused = s.refused ∧ (s.wakeStep).refusedWith = s.refusedWith ∧
      (s.wakeStep).store = s.store := by
  unfold wakeStep; dsimp only; split <;> simp

@[simp] theorem frameStep_frame (abbreviated : Bool) (c : Cmd) (rest : List Cmd) :
    (s.frameStep abbreviated c rest).cfg = s.cfg ∧ (s.frameStep abbreviated c rest).ch = s.ch ∧
      (s.frameStep abbreviated c rest).needsWakeup = s.needsWakeup ∧
      (s.frameStep abbreviated c rest).active = s.active ∧ (s.frameStep abbreviated c rest).wt = s.wt ∧
      (s.frameStep abbreviated c rest).now = s.now ∧ (s.frameStep abbreviated c rest).refused = s.refused ∧
      (s.frameStep abbreviated c rest).refusedWith = s.refusedWith ∧
      (s.frameStep abbreviated c rest).store = s.store := by
  unfold frameStep; dsimp only; split <;> simp

/-! What they write. -/

@[simp] theorem goIdle_active : s.goIdle.active = false := rfl
@[simp] theorem observeFailure_failureObserved : s.observeFailure.failureObserved = true := rfl
@[simp] theorem observeFailure_pend :
    s.observeFailure.pend = some { due := s.now + 0, abbreviated := false } := rfl
@[simp] theorem armCooldown_needsWakeup : s.armCooldown.needsWakeup = false := rfl
@[simp] theorem armCooldown_wt : s.armCooldown.wt = some (s.now + cooldown) := rfl
@[simp] theorem expireCooldown_needsWakeup : s.expireCooldown.needsWakeup = true := rfl
@[simp] theorem expireCooldown_wt : s.expireCooldown.wt = none := rfl
@[simp] theorem cancelBatch_q : s.cancelBatch.q = [] := rfl
@[simp] theorem cancelBatch_failureObserved : s.cancelBatch.failureObserved = false := rfl
@[simp] theorem cancelBatch_active : s.cancelBatch.active = false := rfl
@[simp] theorem cancelBatch_trace :
    s.cancelBatch.trace = s.trace ++ [.log (.error (.configurationError s.q.length))] := rfl

/-- After an ENQUEUE the block is Active, and the continuation is the one it had or the first step of a new
batch (R222). -/
@[simp] theorem activate_active : s.activate.active = true := by
  unfold activate
  split
  · assumption
  · rfl

theorem activate_pend :
    s.activate.pend = if s.active then s.pend else some { due := s.now + 0, abbreviated := false } := by
  unfold activate
  split <;> rfl

@[simp] theorem enqueue_q (ctl : Nibble) (n : SlotIx) (maxrep : BitVec 8) :
    (s.enqueue ctl n maxrep).q = s.q ++ [s.newCmd ctl n maxrep] := by simp [enqueue]

@[simp] theorem enqueue_active (ctl : Nibble) (n : SlotIx) (maxrep : BitVec 8) :
    (s.enqueue ctl n maxrep).active = true := by simp [enqueue]

theorem enqueue_pend (ctl : Nibble) (n : SlotIx) (maxrep : BitVec 8) :
    (s.enqueue ctl n maxrep).pend =
      if s.active then s.pend else some { due := s.now + 0, abbreviated := false } := by
  simp [enqueue, activate_pend]

/-- What an ENQUEUE does to the channel file, the store and the trace is what its CONSUME does (R220). -/
theorem enqueue_consumes (ctl : Nibble) (n : SlotIx) (maxrep : BitVec 8) :
    (s.enqueue ctl n maxrep).ch = (s.consumeBody n).ch ∧
      (s.enqueue ctl n maxrep).store = (s.consumeBody n).store ∧
      (s.enqueue ctl n maxrep).trace = (s.consumeBody n).trace := by simp [enqueue]

/-- The four cases of STEP, checked in the source's order (R240). -/
theorem schedulerStep_cases (abbreviated : Bool) :
    (s.q = [] ∧ s.schedulerStep abbreviated = (s.withPend none).goIdle) ∨
    (s.q ≠ [] ∧ s.failureObserved = true ∧
      s.schedulerStep abbreviated = (s.withPend none).cancelBatch) ∨
    (s.q ≠ [] ∧ s.failureObserved = false ∧ s.needsWakeup = true ∧
      s.schedulerStep abbreviated = (s.withPend none).wakeStep) ∨
    (∃ c rest, s.q = c :: rest ∧ s.failureObserved = false ∧ s.needsWakeup = false ∧
      s.schedulerStep abbreviated = (s.withPend none).frameStep abbreviated c rest) := by
  unfold schedulerStep
  cases hq : s.q with
  | nil => simp
  | cons c rest => cases hf : s.failureObserved <;> cases hw : s.needsWakeup <;> simp

@[simp] theorem enqueue_turns (ctl : Nibble) (n : SlotIx) (maxrep : BitVec 8) :
    (s.enqueue ctl n maxrep).env.turns = s.env.turns := by simp [enqueue]

/-- STEP leaves the transitions presented alone. -/
@[simp] theorem schedulerStep_turns (abbreviated : Bool) :
    (s.schedulerStep abbreviated).env.turns = s.env.turns := by
  rcases schedulerStep_cases s abbreviated with ⟨_, e⟩ | ⟨_, _, e⟩ | ⟨_, _, _, e⟩ | ⟨c, r, _, _, _, e⟩ <;> rw [e]
  · simp
  · simp
  · simp only [wakeStep]
    split <;> simp
  · simp only [frameStep]
    split <;> simp

/-- What a slot operand's guard answers: a refusal, which changes nothing but the mark, or the operation on a
ready slot of the file (R97, R138). -/
theorem guardReady_cases (n : SlotIx) (done : State) :
    (∃ r, s.guardReady n done = s.refuse r) ∨
      (n.toNat < s.cfg.nch ∧ (s.slot n).ready = true ∧ s.guardReady n done = done) := by
  unfold guardReady
  split
  · split
    · exact .inr ⟨‹_›, ‹_›, rfl⟩
    · exact .inl ⟨_, rfl⟩
  · exact .inl ⟨_, rfl⟩

theorem guardFresh_cases (n : SlotIx) (done : State) :
    (∃ r, s.guardFresh n done = s.refuse r) ∨
      (n.toNat < s.cfg.nch ∧ (s.slot n).ready = false ∧ s.guardFresh n done = done) := by
  unfold guardFresh
  split
  · split
    · exact .inl ⟨_, rfl⟩
    · rename_i hn hr
      exact .inr ⟨hn, by simpa using hr, rfl⟩
  · exact .inl ⟨_, rfl⟩

/-- The wakeup case of STEP, field by field (R243). -/
theorem wakeStep_fields :
    (s.withPend none).wakeStep.trace = s.trace ++ [.tx .wakeup wakeF s.txReply] ∧
      (s.withPend none).wakeStep.q = s.q ∧ (s.withPend none).wakeStep.active = s.active ∧
      (s.withPend none).wakeStep.needsWakeup = (if s.txReply then false else s.needsWakeup) ∧
      (s.withPend none).wakeStep.failureObserved = (if s.txReply then s.failureObserved else true) ∧
      (s.withPend none).wakeStep.wt = (if s.txReply then some (s.now + cooldown) else s.wt) ∧
      (s.withPend none).wakeStep.pend = some (if s.txReply then
        { due := s.now + (dur wakeF + s.cfg.wakeSilence), abbreviated := true }
      else { due := s.now + 0, abbreviated := false }) := by
  have e : (s.withPend none).txReply = s.txReply := rfl
  cases h : s.txReply <;> simp [wakeStep, e, h]

/-- The frame case of STEP, field by field (R244 to R246). -/
theorem frameStep_fields (abbreviated : Bool) (c : Cmd) (rest : List Cmd) :
    ((s.withPend none).frameStep abbreviated c rest).trace =
        s.trace ++ [.tx .frame (frameBurst c (syncModeOf abbreviated)) s.txReply] ∧
      ((s.withPend none).frameStep abbreviated c rest).q =
        (if s.txReply then afterRepetition c rest else s.q) ∧
      ((s.withPend none).frameStep abbreviated c rest).active = s.active ∧
      ((s.withPend none).frameStep abbreviated c rest).needsWakeup = s.needsWakeup ∧
      ((s.withPend none).frameStep abbreviated c rest).failureObserved =
        (if s.txReply then s.failureObserved else true) ∧
      ((s.withPend none).frameStep abbreviated c rest).wt = s.wt ∧
      ((s.withPend none).frameStep abbreviated c rest).pend = some (if s.txReply then
        { due := s.now + (dur (frameBurst c (syncModeOf abbreviated)) + s.cfg.ifg), abbreviated := false }
      else { due := s.now + 0, abbreviated := false }) := by
  have e : (s.withPend none).txReply = s.txReply := rfl
  cases h : s.txReply <;> simp [frameStep, e, h]

/-- What STEP never touches. -/
theorem schedulerStep_frame (abbreviated : Bool) :
    (s.schedulerStep abbreviated).cfg = s.cfg ∧ (s.schedulerStep abbreviated).ch = s.ch ∧
      (s.schedulerStep abbreviated).now = s.now ∧ (s.schedulerStep abbreviated).refused = s.refused ∧
      (s.schedulerStep abbreviated).refusedWith = s.refusedWith ∧
      (s.schedulerStep abbreviated).store = s.store := by
  rcases schedulerStep_cases s abbreviated with ⟨_, e⟩ | ⟨_, _, e⟩ | ⟨_, _, _, e⟩ | ⟨c, r, _, _, _, e⟩ <;>
    rw [e] <;> simp

/-- What an ENQUEUE with its response answers (R221). -/
theorem enqueueOp_cases (ctl : Nibble) (n : SlotIx) (maxrep : BitVec 8) :
    (s.queueFull = true ∧ s.enqueueOp ctl n maxrep = s.refuse .queueFull) ∨
      (s.queueFull = false ∧ s.enqueueOp ctl n maxrep = (s.enqueue ctl n maxrep).respond .accepted) := by
  unfold enqueueOp
  cases s.queueFull <;> simp

/-- RESET keeps the parameters, the store and the environment; it draws one free value (R300). -/
@[simp] theorem resetBlock_frame :
    s.resetBlock.cfg = s.cfg ∧ s.resetBlock.store = s.store ∧ s.resetBlock.env = s.env ∧
      s.resetBlock.draws = s.draws + 1 := ⟨rfl, rfl, rfl, rfl⟩

@[simp] theorem resetBlock_length : s.resetBlock.ch.length = s.cfg.nch := by
  simp [resetBlock, freshSlots]

end Sys2Proof.Machine.State
end

