-- ==== Sys2Proof/Laws/Exec.lean ====
section
/-! SUPPORT. Everything an operation can do, said once: the states `exec` and `step` can answer. -/

namespace Sys2Proof.Machine

/-- The ways an operation changes the state. -/
inductive Effect : Instr → State → State → Prop where
  /-- A host operation refused (60_exceptions.md R280). -/
  | refuse {i : Instr} {s : State} (r : RefuseReason) :
      i ≠ .step → i ≠ .wakeExpire → i ≠ .reset → Effect i s (s.refuse r)
  /-- INIT of a slot that is not ready (R130). -/
  | init {s : State} (n : SlotIx) :
      n.toNat < s.cfg.nch → (s.slot n).ready = false → Effect (.init n) s (s.initSlot n)
  /-- CONSUME of a ready slot (R131). -/
  | consume {s : State} (n : SlotIx) :
      n.toNat < s.cfg.nch → (s.slot n).ready = true →
      Effect (.consume n) s ((s.consumeBody n).respond (.code (s.consumedCode n)))
  /-- CONFIG_CHANNEL with neither field (R276). -/
  | configNothing {s : State} (n : SlotIx) :
      n.toNat < s.cfg.nch → (s.slot n).ready = true → Effect (.configNone n) s (s.configNothing n)
  /-- CONFIG_CHANNEL with a field (R135). -/
  | configFields {i : Instr} {s : State} (n : SlotIx) (a : Option Cid) (c : Option Code) :
      i.slot? = some n → i ≠ .init n → i ≠ .configNone n →
      n.toNat < s.cfg.nch → (s.slot n).ready = true → Effect i s (s.configFields n a c)
  /-- An accepted ENQUEUE (R220). -/
  | enqueue {i : Instr} {s : State} (n : SlotIx) (ctl : Nibble) (maxrep : BitVec 8) :
      i.slot? = some n → i ≠ .init n → i ≠ .configNone n →
      n.toNat < s.cfg.nch → (s.slot n).ready = true → s.queueFull = false →
      (isRequest ctl = true ∧ maxrep = s.cfg.repeats ∨ ctl = ctlProgram ∧ maxrep = programMaxReps) →
      Effect i s ((s.enqueue ctl n maxrep).respond .accepted)
  /-- CONTROL with a request that is none (R277). -/
  | ignored {i : Instr} {s : State} (n : SlotIx) (sub : Nibble) :
      i.slot? = some n → i ≠ .init n → i ≠ .configNone n →
      n.toNat < s.cfg.nch → (s.slot n).ready = true →
      Effect i s ((s.raise (.invalidCommand n sub)).respond .ignored)
  /-- ENCODE and BUILD_WAVEFORM (R160, R190). -/
  | answer {i : Instr} {s : State} (v : Resp) :
      i ≠ .step → i ≠ .wakeExpire → i ≠ .reset → Effect i s (s.respond v)
  /-- STEP where it is enabled (R240). -/
  | step {s : State} (abbreviated : Bool) :
      s.stepEnabled = some abbreviated → Effect .step s (s.schedulerStep abbreviated)
  | stepDisabled {s : State} : s.stepEnabled = none → Effect .step s s
  /-- WAKE_EXPIRE where it is enabled (R250). -/
  | wakeExpire {s : State} : s.wakeEnabled = true → Effect .wakeExpire s s.expireCooldown
  | wakeDisabled {s : State} : s.wakeEnabled = false → Effect .wakeExpire s s
  /-- RESET (R300). -/
  | reset {s : State} : Effect .reset s s.resetBlock

/-- A slot operation that is not refused does what it does. -/
theorem effect_ready {i : Instr} {s done t : State} {n : SlotIx} (hs : i.slot? = some n)
    (h : Host.Outcome.next (φ := Fault) (ρ := Refusal) (s.guardReady n done) = .next t)
    (hd : n.toNat < s.cfg.nch → (s.slot n).ready = true → Effect i s done) : Effect i s t := by
  cases h
  rcases State.guardReady_cases s n done with ⟨r, e⟩ | ⟨hn, hr, e⟩
  · rw [e]
    exact .refuse r (by rintro rfl; cases hs) (by rintro rfl; cases hs) (by rintro rfl; cases hs)
  · rw [e]
    exact hd hn hr

/-- What a CONTROL or a SEND_PROGRAM on a ready slot does (R220, R221). -/
theorem effect_enqueueOp {i : Instr} {s : State} {n : SlotIx} {ctl : Nibble} {maxrep : BitVec 8}
    (hs : i.slot? = some n) (hi : i ≠ .init n) (hc : i ≠ .configNone n) (hn : n.toNat < s.cfg.nch)
    (hr : (s.slot n).ready = true)
    (hm : isRequest ctl = true ∧ maxrep = s.cfg.repeats ∨ ctl = ctlProgram ∧ maxrep = programMaxReps) :
    Effect i s (s.enqueueOp ctl n maxrep) := by
  rcases State.enqueueOp_cases s ctl n maxrep with ⟨_, e⟩ | ⟨hf, e⟩ <;> rw [e]
  · exact .refuse _ (by rintro rfl; cases hs) (by rintro rfl; cases hs) (by rintro rfl; cases hs)
  · exact .enqueue n ctl maxrep hs hi hc hn hr hf hm

/-- What CONTROL does (R225). -/
theorem effect_control {i : Instr} {s t : State} {n : SlotIx} {sub : Nibble} (hs : i.slot? = some n)
    (hi : i ≠ .init n) (hc : i ≠ .configNone n)
    (h : Host.Outcome.next (φ := Fault) (ρ := Refusal) (s.control n sub) = .next t) : Effect i s t := by
  refine effect_ready hs h fun hn hr => ?_
  split
  · rename_i hq
    exact effect_enqueueOp hs hi hc hn hr (.inl ⟨hq, rfl⟩)
  · exact .ignored n sub hs hi hc hn hr

/-- Every next state of an operation is one of the effects. -/
theorem exec_effect {i : Instr} {s t : State} (h : exec i s = .next t) : Effect i s t := by
  cases i with
  | init n =>
    cases h
    rcases State.guardFresh_cases s n (s.initSlot n) with ⟨r, e⟩ | ⟨hn, hr, e⟩ <;> rw [e]
    · exact .refuse r nofun nofun nofun
    · exact .init n hn hr
  | consume n => exact effect_ready rfl h (.consume n)
  | configNone n => exact effect_ready rfl h (.configNothing n)
  | configId n a => exact effect_ready rfl h (.configFields n (some a) none rfl nofun nofun)
  | configCode n c => exact effect_ready rfl h (.configFields n none (some c) rfl nofun nofun)
  | configIdCode n a c => exact effect_ready rfl h (.configFields n (some a) (some c) rfl nofun nofun)
  | controlStop n => exact effect_control rfl nofun nofun h
  | controlOpen n => exact effect_control rfl nofun nofun h
  | controlClose n => exact effect_control rfl nofun nofun h
  | controlInvalid0 n => exact effect_control rfl nofun nofun h
  | controlInvalid3 n => exact effect_control rfl nofun nofun h
  | controlInvalid5 n => exact effect_control rfl nofun nofun h
  | controlInvalid6 n => exact effect_control rfl nofun nofun h
  | controlInvalid7 n => exact effect_control rfl nofun nofun h
  | controlInvalid8 n => exact effect_control rfl nofun nofun h
  | controlInvalid9 n => exact effect_control rfl nofun nofun h
  | controlInvalidA n => exact effect_control rfl nofun nofun h
  | controlInvalidB n => exact effect_control rfl nofun nofun h
  | controlInvalidC n => exact effect_control rfl nofun nofun h
  | controlInvalidD n => exact effect_control rfl nofun nofun h
  | controlInvalidE n => exact effect_control rfl nofun nofun h
  | controlInvalidF n => exact effect_control rfl nofun nofun h
  | program n =>
    exact effect_ready rfl h fun hn hr => effect_enqueueOp rfl nofun nofun hn hr (.inr ⟨rfl, rfl⟩)
  | encode ctl cid code => cases h; exact .answer _ nofun nofun nofun
  | waveFull o => cases h; exact .answer _ nofun nofun nofun
  | waveAbbr o => cases h; exact .answer _ nofun nofun nofun
  | reservedOp0 rest => cases h; exact .refuse _ nofun nofun nofun
  | reservedOp8 rest => cases h; exact .refuse _ nofun nofun nofun
  | reservedOp9 rest => cases h; exact .refuse _ nofun nofun nofun
  | reservedOpA rest => cases h; exact .refuse _ nofun nofun nofun
  | reservedOpB rest => cases h; exact .refuse _ nofun nofun nofun
  | reservedOpC rest => cases h; exact .refuse _ nofun nofun nofun
  | reservedOpD rest => cases h; exact .refuse _ nofun nofun nofun
  | reservedOpE rest => cases h; exact .refuse _ nofun nofun nofun
  | reservedOpF rest => cases h; exact .refuse _ nofun nofun nofun
  | frameCtlStop chk => cases h
  | frameCtlOpen chk => cases h
  | frameCtlClose chk => cases h
  | frameCtlProgram chk => cases h
  | step =>
    simp only [exec, execStep] at h
    split at h <;> cases h
    · exact .step _ ‹_›
    · exact .stepDisabled ‹_›
  | wakeExpire =>
    simp only [exec, execWakeExpire] at h
    split at h <;> cases h
    · exact .wakeExpire ‹_›
    · exact .wakeDisabled (Bool.eq_false_iff.mpr ‹_›)
  | reset => cases h; exact .reset

/-- No operation touches the transitions presented after it. -/
theorem effect_turns {i : Instr} {s t : State} (h : Effect i s t) : t.env.turns = s.env.turns := by
  cases h <;> simp [State.configNothing]

/-- Every next state of a step: an advance of `now`, a refused word, or an operation's effect on the state with
the chosen transition taken up (43_scheduler.md R252). -/
theorem step_cases {s t : State} (h : step s = .next t) :
    (∃ d, s.nextTurn = .advance d ∧ t = s.popTurn.advance d) ∨
    (∃ w r, s.nextTurn = .input (.word w) ∧ t = s.popTurn.refuse r) ∨
    ∃ x i, s.nextTurn = .input x ∧ decode x = .instr i ∧ Effect i s.popTurn t := by
  unfold step runTurn at h
  split at h
  · rename_i x hx
    unfold runInput at h
    split at h
    · exact .inr (.inr ⟨x, _, hx, ‹_›, exec_effect h⟩)
    · rename_i r hr
      cases h
      cases x with
      | word w => exact .inr (.inl ⟨w, r, hx, rfl⟩)
      | frameByte b =>
        simp only [decode, decodeFrameByte] at hr
        split at hr <;> cases hr
      | step => cases hr
      | wakeExpire => cases hr
      | reset => cases hr
    · cases h
  · rename_i d hd
    cases h
    exact .inl ⟨d, hd, rfl⟩

/-- One step of a run. -/
theorem run_succ {k : Nat} {s s' : State} (h : step s = .next s') :
    Sys2Proof.core.run (k + 1) s = Sys2Proof.core.run k s' := by
  simp only [Host.Core.run]
  rw [show Sys2Proof.core.step s = step s from rfl, h]

/-- A presented operation is what the step runs, on the state with the transition taken up. -/
theorem step_presented {s : State} {x : Input} {i : Instr} {rest : List Turn}
    (h : s.env.turns = .input x :: rest) (hd : decode x = .instr i) :
    step s = exec i (s.withEnv { s.env with turns := rest }) := by
  obtain ⟨h1, h2⟩ := State.popTurn_cons s h
  simp only [step, h1, h2, runTurn, runInput, hd]

/-- A presented advance of `now`. -/
theorem step_advance {s : State} {d : Nat} {rest : List Turn} (h : s.env.turns = .advance d :: rest) :
    step s = .next ((s.withEnv { s.env with turns := rest }).advance d) := by
  obtain ⟨h1, h2⟩ := State.popTurn_cons s h
  simp only [step, h1, h2, runTurn]

end Sys2Proof.Machine
end

