-- ==== Sys2Proof/Laws/PerInstr.lean ====
section
/-! SUPPORT. Statements made per instruction. The family TableRow: the presented form of every instruction fits
the row of spec/opcode_table.json that stands for it, `match` and `mask` copied from there. -/

namespace Sys2Proof.Laws

/-- A row of the opcode table: the bits of `mask` of the presented form are `pattern`; an event has no
encoding. -/
inductive TableForm where
  | host (pattern mask : HostWord)
  | frameByte (pattern mask : Byte)
  | event

/-- Whether what is presented fits a row. -/
def TableForm.admits : TableForm → Input → Prop
  | .host p m, .word w => w &&& m = p
  | .frameByte p m, .frameByte b => b &&& m = p
  | .event, .step => True
  | .event, .wakeExpire => True
  | .event, .reset => True
  | _, _ => False

/-- The row of an instruction, as the table gives it. -/
def tableForm : Instr → TableForm
  | .init _ => .host 0x0000000000000001 0xFFFFFFFFFFFF00FF
  | .consume _ => .host 0x0000000000000002 0xFFFFFFFFFFFF00FF
  | .configNone _ => .host 0x0000000000000003 0xFFFFFFFFFFFF00FF
  | .configId _ _ => .host 0x0000000000000013 0x00000000FFFF00FF
  | .configCode _ _ => .host 0x0000000000000023 0xFFFFFFFF000000FF
  | .configIdCode _ _ _ => .host 0x0000000000000033 0x00000000000000FF
  | .controlStop _ => .host 0x0000000000000014 0xFFFFFFFFFFFF00FF
  | .controlOpen _ => .host 0x0000000000000024 0xFFFFFFFFFFFF00FF
  | .controlClose _ => .host 0x0000000000000044 0xFFFFFFFFFFFF00FF
  | .controlInvalid0 _ => .host 0x0000000000000004 0xFFFFFFFFFFFF00FF
  | .controlInvalid3 _ => .host 0x0000000000000034 0xFFFFFFFFFFFF00FF
  | .controlInvalid5 _ => .host 0x0000000000000054 0xFFFFFFFFFFFF00FF
  | .controlInvalid6 _ => .host 0x0000000000000064 0xFFFFFFFFFFFF00FF
  | .controlInvalid7 _ => .host 0x0000000000000074 0xFFFFFFFFFFFF00FF
  | .controlInvalid8 _ => .host 0x0000000000000084 0xFFFFFFFFFFFF00FF
  | .controlInvalid9 _ => .host 0x0000000000000094 0xFFFFFFFFFFFF00FF
  | .controlInvalidA _ => .host 0x00000000000000A4 0xFFFFFFFFFFFF00FF
  | .controlInvalidB _ => .host 0x00000000000000B4 0xFFFFFFFFFFFF00FF
  | .controlInvalidC _ => .host 0x00000000000000C4 0xFFFFFFFFFFFF00FF
  | .controlInvalidD _ => .host 0x00000000000000D4 0xFFFFFFFFFFFF00FF
  | .controlInvalidE _ => .host 0x00000000000000E4 0xFFFFFFFFFFFF00FF
  | .controlInvalidF _ => .host 0x00000000000000F4 0xFFFFFFFFFFFF00FF
  | .program _ => .host 0x0000000000000005 0xFFFFFFFFFFFF00FF
  | .encode _ _ _ => .host 0x0000000000000006 0x000000000000FF0F
  | .waveFull _ => .host 0x0000000000000007 0x00000000000000FF
  | .waveAbbr _ => .host 0x0000000000000017 0x00000000000000FF
  | .reservedOp0 _ => .host 0x0000000000000000 0x000000000000000F
  | .reservedOp8 _ => .host 0x0000000000000008 0x000000000000000F
  | .reservedOp9 _ => .host 0x0000000000000009 0x000000000000000F
  | .reservedOpA _ => .host 0x000000000000000A 0x000000000000000F
  | .reservedOpB _ => .host 0x000000000000000B 0x000000000000000F
  | .reservedOpC _ => .host 0x000000000000000C 0x000000000000000F
  | .reservedOpD _ => .host 0x000000000000000D 0x000000000000000F
  | .reservedOpE _ => .host 0x000000000000000E 0x000000000000000F
  | .reservedOpF _ => .host 0x000000000000000F 0x000000000000000F
  | .frameCtlStop _ => .frameByte 0x10 0xF0
  | .frameCtlOpen _ => .frameByte 0x20 0xF0
  | .frameCtlClose _ => .frameByte 0x40 0xF0
  | .frameCtlProgram _ => .frameByte 0x80 0xF0
  | .step => .event
  | .wakeExpire => .event
  | .reset => .event

/-- The presented form of an instruction fits its row of the opcode table. -/
def TableRow.Statement (i : Instr) : Prop := (tableForm i).admits (encode i)

/-- A field outside the mask is masked away. -/
theorem and_zero_field {w : Nat} (x : BitVec w) : x &&& 0 = 0 := by simp

/-- Masking a host word masks its fields. -/
theorem hostWord_and (a a' : Cid) (b b' : Code) (c c' : SlotIx) (d d' e e' : Nibble) :
    hostWord a b c d e &&& hostWord a' b' c' d' e' =
      hostWord (a &&& a') (b &&& b') (c &&& c') (d &&& d') (e &&& e') := by
  have h : (a ++ b ++ c ++ d ++ e : BitVec (32 + 16 + 8 + 4 + 4)) &&& (a' ++ b' ++ c' ++ d' ++ e') =
      (a &&& a') ++ (b &&& b') ++ (c &&& c') ++ (d &&& d') ++ (e &&& e') := by
    simp only [BitVec.and_append]
  exact h

theorem waveWord_and (o o' : Frame) (d d' e e' : Nibble) :
    waveWord o d e &&& waveWord o' d' e' =
      waveWord ⟨o.b0 &&& o'.b0, o.b1 &&& o'.b1, o.b2 &&& o'.b2, o.b3 &&& o'.b3, o.b4 &&& o'.b4,
        o.b5 &&& o'.b5, o.b6 &&& o'.b6⟩ (d &&& d') (e &&& e') := by
  have h : (o.b6 ++ o.b5 ++ o.b4 ++ o.b3 ++ o.b2 ++ o.b1 ++ o.b0 ++ d ++ e :
        BitVec (8 + 8 + 8 + 8 + 8 + 8 + 8 + 4 + 4)) &&&
        (o'.b6 ++ o'.b5 ++ o'.b4 ++ o'.b3 ++ o'.b2 ++ o'.b1 ++ o'.b0 ++ d' ++ e') =
      (o.b6 &&& o'.b6) ++ (o.b5 &&& o'.b5) ++ (o.b4 &&& o'.b4) ++ (o.b3 &&& o'.b3) ++ (o.b2 &&& o'.b2) ++
        (o.b1 &&& o'.b1) ++ (o.b0 &&& o'.b0) ++ (d &&& d') ++ (e &&& e') := by
    simp only [BitVec.and_append]
  exact h

theorem reservedWord_and (r r' : BitVec 60) (e e' : Nibble) :
    reservedWord r e &&& reservedWord r' e' = reservedWord (r &&& r') (e &&& e') := by
  have h : (r ++ e : BitVec (60 + 4)) &&& (r' ++ e') = (r &&& r') ++ (e &&& e') := by
    simp only [BitVec.and_append]
  exact h

/-- The masks of the table, field by field. -/
theorem maskSlot : (0xFFFFFFFFFFFF00FF : HostWord) = hostWord 0xFFFFFFFF 0xFFFF 0 0xF 0xF := by decide
theorem maskId : (0x00000000FFFF00FF : HostWord) = hostWord 0 0xFFFF 0 0xF 0xF := by decide
theorem maskCode : (0xFFFFFFFF000000FF : HostWord) = hostWord 0xFFFFFFFF 0 0 0xF 0xF := by decide
theorem maskIdCode : (0x00000000000000FF : HostWord) = hostWord 0 0 0 0xF 0xF := by decide
theorem maskEncode : (0x000000000000FF0F : HostWord) = hostWord 0 0 0xFF 0 0xF := by decide
theorem maskWave : (0x00000000000000FF : HostWord) = waveWord ⟨0, 0, 0, 0, 0, 0, 0⟩ 0xF 0xF := by decide
theorem maskOp : (0x000000000000000F : HostWord) = reservedWord 0 0xF := by decide

theorem TableRow.init (n : SlotIx) : TableRow.Statement (.init n) := by
  rw [TableRow.Statement, tableForm, Sys2Proof.encode, TableForm.admits, maskSlot, hostWord_and]
  simp only [and_zero_field]
  decide

theorem TableRow.consume (n : SlotIx) : TableRow.Statement (.consume n) := by
  rw [TableRow.Statement, tableForm, Sys2Proof.encode, TableForm.admits, maskSlot, hostWord_and]
  simp only [and_zero_field]
  decide

theorem TableRow.configNone (n : SlotIx) : TableRow.Statement (.configNone n) := by
  rw [TableRow.Statement, tableForm, Sys2Proof.encode, TableForm.admits, maskSlot, hostWord_and]
  simp only [and_zero_field]
  decide

theorem TableRow.configId (n : SlotIx) (a : Cid) : TableRow.Statement (.configId n a) := by
  rw [TableRow.Statement, tableForm, Sys2Proof.encode, TableForm.admits, maskId, hostWord_and]
  simp only [and_zero_field]
  decide

theorem TableRow.configCode (n : SlotIx) (c : Code) : TableRow.Statement (.configCode n c) := by
  rw [TableRow.Statement, tableForm, Sys2Proof.encode, TableForm.admits, maskCode, hostWord_and]
  simp only [and_zero_field]
  decide

theorem TableRow.configIdCode (n : SlotIx) (a : Cid) (c : Code) :
    TableRow.Statement (.configIdCode n a c) := by
  rw [TableRow.Statement, tableForm, Sys2Proof.encode, TableForm.admits, maskIdCode, hostWord_and]
  simp only [and_zero_field]
  decide

theorem TableRow.controlStop (n : SlotIx) : TableRow.Statement (.controlStop n) := by
  rw [TableRow.Statement, tableForm, Sys2Proof.encode, TableForm.admits, maskSlot, hostWord_and]
  simp only [and_zero_field]
  decide

theorem TableRow.controlOpen (n : SlotIx) : TableRow.Statement (.controlOpen n) := by
  rw [TableRow.Statement, tableForm, Sys2Proof.encode, TableForm.admits, maskSlot, hostWord_and]
  simp only [and_zero_field]
  decide

theorem TableRow.controlClose (n : SlotIx) : TableRow.Statement (.controlClose n) := by
  rw [TableRow.Statement, tableForm, Sys2Proof.encode, TableForm.admits, maskSlot, hostWord_and]
  simp only [and_zero_field]
  decide

theorem TableRow.controlInvalid0 (n : SlotIx) : TableRow.Statement (.controlInvalid0 n) := by
  rw [TableRow.Statement, tableForm, Sys2Proof.encode, TableForm.admits, maskSlot, hostWord_and]
  simp only [and_zero_field]
  decide

theorem TableRow.controlInvalid3 (n : SlotIx) : TableRow.Statement (.controlInvalid3 n) := by
  rw [TableRow.Statement, tableForm, Sys2Proof.encode, TableForm.admits, maskSlot, hostWord_and]
  simp only [and_zero_field]
  decide

theorem TableRow.controlInvalid5 (n : SlotIx) : TableRow.Statement (.controlInvalid5 n) := by
  rw [TableRow.Statement, tableForm, Sys2Proof.encode, TableForm.admits, maskSlot, hostWord_and]
  simp only [and_zero_field]
  decide

theorem TableRow.controlInvalid6 (n : SlotIx) : TableRow.Statement (.controlInvalid6 n) := by
  rw [TableRow.Statement, tableForm, Sys2Proof.encode, TableForm.admits, maskSlot, hostWord_and]
  simp only [and_zero_field]
  decide

theorem TableRow.controlInvalid7 (n : SlotIx) : TableRow.Statement (.controlInvalid7 n) := by
  rw [TableRow.Statement, tableForm, Sys2Proof.encode, TableForm.admits, maskSlot, hostWord_and]
  simp only [and_zero_field]
  decide

theorem TableRow.controlInvalid8 (n : SlotIx) : TableRow.Statement (.controlInvalid8 n) := by
  rw [TableRow.Statement, tableForm, Sys2Proof.encode, TableForm.admits, maskSlot, hostWord_and]
  simp only [and_zero_field]
  decide

theorem TableRow.controlInvalid9 (n : SlotIx) : TableRow.Statement (.controlInvalid9 n) := by
  rw [TableRow.Statement, tableForm, Sys2Proof.encode, TableForm.admits, maskSlot, hostWord_and]
  simp only [and_zero_field]
  decide

theorem TableRow.controlInvalidA (n : SlotIx) : TableRow.Statement (.controlInvalidA n) := by
  rw [TableRow.Statement, tableForm, Sys2Proof.encode, TableForm.admits, maskSlot, hostWord_and]
  simp only [and_zero_field]
  decide

theorem TableRow.controlInvalidB (n : SlotIx) : TableRow.Statement (.controlInvalidB n) := by
  rw [TableRow.Statement, tableForm, Sys2Proof.encode, TableForm.admits, maskSlot, hostWord_and]
  simp only [and_zero_field]
  decide

theorem TableRow.controlInvalidC (n : SlotIx) : TableRow.Statement (.controlInvalidC n) := by
  rw [TableRow.Statement, tableForm, Sys2Proof.encode, TableForm.admits, maskSlot, hostWord_and]
  simp only [and_zero_field]
  decide

theorem TableRow.controlInvalidD (n : SlotIx) : TableRow.Statement (.controlInvalidD n) := by
  rw [TableRow.Statement, tableForm, Sys2Proof.encode, TableForm.admits, maskSlot, hostWord_and]
  simp only [and_zero_field]
  decide

theorem TableRow.controlInvalidE (n : SlotIx) : TableRow.Statement (.controlInvalidE n) := by
  rw [TableRow.Statement, tableForm, Sys2Proof.encode, TableForm.admits, maskSlot, hostWord_and]
  simp only [and_zero_field]
  decide

theorem TableRow.controlInvalidF (n : SlotIx) : TableRow.Statement (.controlInvalidF n) := by
  rw [TableRow.Statement, tableForm, Sys2Proof.encode, TableForm.admits, maskSlot, hostWord_and]
  simp only [and_zero_field]
  decide

theorem TableRow.program (n : SlotIx) : TableRow.Statement (.program n) := by
  rw [TableRow.Statement, tableForm, Sys2Proof.encode, TableForm.admits, maskSlot, hostWord_and]
  simp only [and_zero_field]
  decide

theorem TableRow.encode (ctl : Nibble) (cid : Cid) (code : Code) :
    TableRow.Statement (.encode ctl cid code) := by
  rw [TableRow.Statement, tableForm, Sys2Proof.encode, TableForm.admits, maskEncode, hostWord_and]
  simp only [and_zero_field]
  decide

theorem TableRow.waveFull (o : Frame) : TableRow.Statement (.waveFull o) := by
  rw [TableRow.Statement, tableForm, Sys2Proof.encode, TableForm.admits, maskWave, waveWord_and]
  simp only [and_zero_field]
  decide

theorem TableRow.waveAbbr (o : Frame) : TableRow.Statement (.waveAbbr o) := by
  rw [TableRow.Statement, tableForm, Sys2Proof.encode, TableForm.admits, maskWave, waveWord_and]
  simp only [and_zero_field]
  decide

theorem TableRow.reservedOp0 (rest : BitVec 60) : TableRow.Statement (.reservedOp0 rest) := by
  rw [TableRow.Statement, tableForm, Sys2Proof.encode, TableForm.admits, maskOp, reservedWord_and]
  simp only [and_zero_field]
  decide

theorem TableRow.reservedOp8 (rest : BitVec 60) : TableRow.Statement (.reservedOp8 rest) := by
  rw [TableRow.Statement, tableForm, Sys2Proof.encode, TableForm.admits, maskOp, reservedWord_and]
  simp only [and_zero_field]
  decide

theorem TableRow.reservedOp9 (rest : BitVec 60) : TableRow.Statement (.reservedOp9 rest) := by
  rw [TableRow.Statement, tableForm, Sys2Proof.encode, TableForm.admits, maskOp, reservedWord_and]
  simp only [and_zero_field]
  decide

theorem TableRow.reservedOpA (rest : BitVec 60) : TableRow.Statement (.reservedOpA rest) := by
  rw [TableRow.Statement, tableForm, Sys2Proof.encode, TableForm.admits, maskOp, reservedWord_and]
  simp only [and_zero_field]
  decide

theorem TableRow.reservedOpB (rest : BitVec 60) : TableRow.Statement (.reservedOpB rest) := by
  rw [TableRow.Statement, tableForm, Sys2Proof.encode, TableForm.admits, maskOp, reservedWord_and]
  simp only [and_zero_field]
  decide

theorem TableRow.reservedOpC (rest : BitVec 60) : TableRow.Statement (.reservedOpC rest) := by
  rw [TableRow.Statement, tableForm, Sys2Proof.encode, TableForm.admits, maskOp, reservedWord_and]
  simp only [and_zero_field]
  decide

theorem TableRow.reservedOpD (rest : BitVec 60) : TableRow.Statement (.reservedOpD rest) := by
  rw [TableRow.Statement, tableForm, Sys2Proof.encode, TableForm.admits, maskOp, reservedWord_and]
  simp only [and_zero_field]
  decide

theorem TableRow.reservedOpE (rest : BitVec 60) : TableRow.Statement (.reservedOpE rest) := by
  rw [TableRow.Statement, tableForm, Sys2Proof.encode, TableForm.admits, maskOp, reservedWord_and]
  simp only [and_zero_field]
  decide

theorem TableRow.reservedOpF (rest : BitVec 60) : TableRow.Statement (.reservedOpF rest) := by
  rw [TableRow.Statement, tableForm, Sys2Proof.encode, TableForm.admits, maskOp, reservedWord_and]
  simp only [and_zero_field]
  decide

theorem TableRow.frameCtlStop (chk : Nibble) : TableRow.Statement (.frameCtlStop chk) := by
  have h : ∀ x : Nibble, ((0x1#4 : Nibble) ++ x : Byte) &&& 0xF0 = 0x10 := by decide
  exact h chk

theorem TableRow.frameCtlOpen (chk : Nibble) : TableRow.Statement (.frameCtlOpen chk) := by
  have h : ∀ x : Nibble, ((0x2#4 : Nibble) ++ x : Byte) &&& 0xF0 = 0x20 := by decide
  exact h chk

theorem TableRow.frameCtlClose (chk : Nibble) : TableRow.Statement (.frameCtlClose chk) := by
  have h : ∀ x : Nibble, ((0x4#4 : Nibble) ++ x : Byte) &&& 0xF0 = 0x40 := by decide
  exact h chk

theorem TableRow.frameCtlProgram (chk : Nibble) : TableRow.Statement (.frameCtlProgram chk) := by
  have h : ∀ x : Nibble, ((0x8#4 : Nibble) ++ x : Byte) &&& 0xF0 = 0x80 := by decide
  exact h chk

theorem TableRow.step : TableRow.Statement (.step) := by
  trivial

theorem TableRow.wakeExpire : TableRow.Statement (.wakeExpire) := by
  trivial

theorem TableRow.reset : TableRow.Statement (.reset) := by
  trivial

end Sys2Proof.Laws
end

