-- ==== Sys2Proof/Tests/Slice0.lean ====
section
/-! SUPPORT. Small tests on fixed values. Every expected value comes from spec/95_test_vectors.md (the vector is
named in the comment) or from the rule named, not from the model. -/

open Sys2Proof Sys2Proof.Machine

namespace Sys2Proof.Tests

/-! ### Helpers -/

/-- The next state of an outcome. -/
def nextOf : Host.Outcome State Fault Refusal → Option State
  | .next s => some s
  | _ => none

/-- The trace after one operation. -/
def traceAfter (i : Instr) (s : State) : Option (List Event) := (nextOf (exec i s)).map State.trace

/-- Two slots with the keys 11 and 12, three repetitions, carrier 0, nominal delays. -/
def params : Params := { keys := [11, 12], repeats := 3 }

/-- The channel id of the vectors. -/
def cid : Cid := 0x00010203#32

/-- What the environment answers, one answer of each kind. -/
def answers (load : Option (List Byte)) (save tx : Bool) (rands : List (BitVec 32)) : Env :=
  { turns := [], loads := [load], saves := [save], rands := rands, txs := [tx] }

/-- Booted, no slot initialised. -/
def fresh : State :=
  (State.boot params).withEnv (answers none true true [0x12345678#32, 0xDEADBEEF#32])

/-- Booted, the store about to answer one load. -/
def loading (r : List Byte) : State := fresh.withEnv (answers (some r) true true [])

/-- Slot 0 ready with a stored code; the next save answers `save`, the next burst `tx`. -/
def readyWith (code : Code) (save tx : Bool) : State :=
  ((State.boot params).withCh [{ ready := true, cid := cid, code := code }, ChanSlot.blank]).withEnv
    (answers none save tx [])

/-- Slot 0 ready; saves and bursts succeed. -/
def ready (code : Code) : State := readyWith code true true

/-- The queue entry of an OPEN with code 5 and three repetitions, `done` of them sent. -/
def openCmd (done : BitVec 8) : Cmd := { ctl := 0x2, cid := cid, code := 5, req := 3, done := done }

/-- A STOP queued behind it. -/
def stopCmd : Cmd := { ctl := 0x1, cid := cid, code := 6, req := 3, done := 0 }

/-- Active at `now = 1000` with a continuation due, a queue and a wakeup state; the next burst answers `tx`. -/
def stepping (abbreviated needsWakeup tx : Bool) (q : List Cmd) : State :=
  { readyWith 6 true tx with
    q := q, active := true, needsWakeup := needsWakeup, now := 1000,
    wt := if needsWakeup then none else some 10001000,
    pend := some { due := 1000, abbreviated := abbreviated } }

/-- The obfuscated frame of V1. -/
def o1 : Frame := ⟨0xA7, 0x8D, 0x8D, 0x88, 0x8B, 0x89, 0x88⟩

/-! ### Parameters and slot operands: what the checks refuse (R8, R302, R97) -/

theorem test_params_ok : params.ok = true := by decide
theorem test_params_no_slot : ({ params with keys := [] } : Params).ok = false := by decide
theorem test_params_equal_keys : ({ params with keys := [11, 11] } : Params).ok = false := by decide
theorem test_params_no_repeats : ({ params with repeats := 0 } : Params).ok = false := by decide
theorem test_params_no_queue : ({ params with queueDepth := some 0 } : Params).ok = false := by decide
theorem test_params_too_many_slots :
    ({ params with keys := List.replicate 257 0 } : Params).ok = false := by
  decide +kernel
theorem test_wellFormed_last_slot : WellFormed params (.init 1) = true := by decide
/-- V41, last row: with `P_NCH = 2` slot 2 is no slot. -/
theorem test_illFormed_slot : WellFormed params (.init 2) = false := by decide

/-! ### Decoding: words written out from the layout of R91 (V40, R117) -/

theorem test_decode_init : decodeTableWord 64 0x0000000000000101 = some (.init 1) := by decide
theorem test_decode_consume : decodeTableWord 64 0x0000000000000002 = some (.consume 0) := by decide
theorem test_decode_configNone : decodeTableWord 64 0x0000000000000003 = some (.configNone 0) := by decide
theorem test_decode_configId : decodeTableWord 64 0x00ABCDEF00000013 = some (.configId 0 0x00ABCDEF) := by
  decide
theorem test_decode_configCode : decodeTableWord 64 0x00000000FFFF0023 = some (.configCode 0 0xFFFF) := by
  decide
theorem test_decode_configIdCode :
    decodeTableWord 64 0x0001020300050033 = some (.configIdCode 0 0x00010203 5) := by decide
theorem test_decode_controlStop : decodeTableWord 64 0x0000000000000014 = some (.controlStop 0) := by decide
theorem test_decode_controlOpen : decodeTableWord 64 0x0000000000000024 = some (.controlOpen 0) := by decide
theorem test_decode_controlClose : decodeTableWord 64 0x0000000000000044 = some (.controlClose 0) := by decide
theorem test_decode_controlInvalid0 : decodeTableWord 64 0x004 = some (.controlInvalid0 0) := by decide
theorem test_decode_controlInvalid3 : decodeTableWord 64 0x134 = some (.controlInvalid3 1) := by decide
theorem test_decode_controlInvalid5 : decodeTableWord 64 0x154 = some (.controlInvalid5 1) := by decide
theorem test_decode_controlInvalid6 : decodeTableWord 64 0x164 = some (.controlInvalid6 1) := by decide
theorem test_decode_controlInvalid7 : decodeTableWord 64 0x174 = some (.controlInvalid7 1) := by decide
theorem test_decode_controlInvalid8 : decodeTableWord 64 0x084 = some (.controlInvalid8 0) := by decide
theorem test_decode_controlInvalid9 : decodeTableWord 64 0x194 = some (.controlInvalid9 1) := by decide
theorem test_decode_controlInvalidA : decodeTableWord 64 0x1A4 = some (.controlInvalidA 1) := by decide
theorem test_decode_controlInvalidB : decodeTableWord 64 0x1B4 = some (.controlInvalidB 1) := by decide
theorem test_decode_controlInvalidC : decodeTableWord 64 0x1C4 = some (.controlInvalidC 1) := by decide
theorem test_decode_controlInvalidD : decodeTableWord 64 0x1D4 = some (.controlInvalidD 1) := by decide
theorem test_decode_controlInvalidE : decodeTableWord 64 0x1E4 = some (.controlInvalidE 1) := by decide
theorem test_decode_controlInvalidF : decodeTableWord 64 0x0F4 = some (.controlInvalidF 0) := by decide
theorem test_decode_program : decodeTableWord 64 0x0000000000000105 = some (.program 1) := by decide
theorem test_decode_encode :
    decodeTableWord 64 0x0001020300050026 = some (.encode 0x2 0x00010203 5) := by decide
theorem test_decode_waveFull : decodeTableWord 64 0x88898B888D8DA707 = some (.waveFull o1) := by decide
theorem test_decode_waveAbbr : decodeTableWord 64 0x88898B888D8DA717 = some (.waveAbbr o1) := by decide
theorem test_decode_reservedOp0 : decodeTableWord 64 0x0 = some (.reservedOp0 0) := by decide
theorem test_decode_reservedOp8 : decodeTableWord 64 0x8 = some (.reservedOp8 0) := by decide
theorem test_decode_reservedOp9 : decodeTableWord 64 0x9 = some (.reservedOp9 0) := by decide
theorem test_decode_reservedOpA : decodeTableWord 64 0x1A = some (.reservedOpA 1) := by decide
theorem test_decode_reservedOpB : decodeTableWord 64 0xB = some (.reservedOpB 0) := by decide
theorem test_decode_reservedOpC : decodeTableWord 64 0xC = some (.reservedOpC 0) := by decide
theorem test_decode_reservedOpD : decodeTableWord 64 0xD = some (.reservedOpD 0) := by decide
theorem test_decode_reservedOpE : decodeTableWord 64 0xE = some (.reservedOpE 0) := by decide
theorem test_decode_reservedOpF :
    decodeTableWord 64 0xF00000000000000F = some (.reservedOpF 0xF00000000000000) := by decide
/-- Byte 1 of the frames of V20, whose table words are the control code above a zero checksum. -/
theorem test_decode_frameBytes :
    decodeTableWord 8 0x10 = some (.frameCtlStop 0) ∧ decodeTableWord 8 0x20 = some (.frameCtlOpen 0) ∧
      decodeTableWord 8 0x40 = some (.frameCtlClose 0) ∧
      decodeTableWord 8 0x80 = some (.frameCtlProgram 0) ∧
      decode (.frameByte 0x2A) = .instr (.frameCtlOpen 0xA) ∧
      decode (.frameByte 0x3B) = .reject (.notAControlCode 3) := by decide
/-- R100: the events have no encoding; the environment fires them. -/
theorem test_decode_events :
    decode .step = .instr .step ∧ decode .wakeExpire = .instr .wakeExpire ∧
      decode .reset = .instr .reset := by decide
/-- V41: the words refused RESERVED_FIELD. -/
theorem test_decode_refused :
    decodeWord 0x0000000000000011 = .reject (.refuse .reservedField) ∧
    decodeWord 0x0000000000010001 = .reject (.refuse .reservedField) ∧
    decodeWord 0x0000000100000002 = .reject (.refuse .reservedField) ∧
    decodeWord 0x0000000000FF0003 = .reject (.refuse .reservedField) ∧
    decodeWord 0x0000000100000023 = .reject (.refuse .reservedField) ∧
    decodeWord 0x0000000000000043 = .reject (.refuse .reservedField) ∧
    decodeWord 0x0000000100000024 = .reject (.refuse .reservedField) ∧
    decodeWord 0x0000000000000015 = .reject (.refuse .reservedField) ∧
    decodeWord 0x0000000000000106 = .reject (.refuse .reservedField) ∧
    decodeWord 0x0000000000000037 = .reject (.refuse .reservedField) := by decide

/-! ### RollingChannel -/

/-- V12: a record is found. -/
theorem test_init_loads :
    traceAfter (.init 0) (loading [3, 2, 1, 0, 5, 0]) =
      some [.load 11 (some [3, 2, 1, 0, 5, 0]), .log (.initState 0 cid 5), .resp (.channel cid 5)] := by
  decide
/-- V13: no record; the channel id is drawn first, the code masked. -/
theorem test_init_seeds :
    traceAfter (.init 0) fresh =
      some [.load 11 none, .rand 0x12345678, .rand 0xDEADBEEF, .log (.freshPair 0),
        .log (.initState 0 0x12345678 0x3EEF), .resp (.channel 0x12345678 0x3EEF)] := by decide
/-- V14: a record of five bytes is a failed load. -/
theorem test_init_short_record :
    ((nextOf (exec (.init 0) ((loading [3, 2, 1, 0, 5]).withEnv
      (answers (some [3, 2, 1, 0, 5]) true true [0x12345678#32, 0xDEADBEEF#32])))).map
        fun t => t.slot 0) = some ⟨true, 0x12345678, 0x3EEF⟩ := by decide
/-- The record of P2's slot 1: id 0xCAFEF00D and code 2, both little-endian. -/
theorem test_recordOf : recordOf 0xCAFEF00D 2 = [0x0D, 0xF0, 0xFE, 0xCA, 0x02, 0x00] := by decide
/-- With P_STORE_COHERENT a load answers the record saved before, or none (R64). -/
theorem test_coherent_load :
    (let s := { fresh with cfg := { params with storeCoherent := true }, store := [(11, [3, 2, 1, 0, 5, 0])] }
     s.memReadResult 11 = some [3, 2, 1, 0, 5, 0] ∧ s.memReadResult 12 = none) := by decide
/-- V3: 65535 is returned and 0 stored. -/
theorem test_consume_wraps :
    ((nextOf (exec (.consume 0) (ready 0xFFFF))).map fun t => ((t.slot 0).code, t.trace)) =
      some (0, [.save 11 [3, 2, 1, 0, 0, 0] true, .notify 0 cid 0, .resp (.code 0xFFFF)]) := by decide
/-- V17: the save fails; the code is consumed all the same. -/
theorem test_consume_save_fails :
    ((nextOf (exec (.consume 0) (readyWith 6 false true))).map fun t => ((t.slot 0).code, t.store, t.trace)) =
      some (7, [], [.save 11 [3, 2, 1, 0, 7, 0] false, .log (.error (.persistenceError 0)),
        .notify 0 cid 7, .resp (.code 6)]) := by decide
/-- V16, row 1. -/
theorem test_configNone :
    traceAfter (.configNone 0) (ready 6) =
      some [.log (.error (.noopWarning 0)), .resp (.channel cid 6)] := by decide
/-- V16, row 2. -/
theorem test_configId :
    traceAfter (.configId 0 0x00ABCDEF) (ready 6) =
      some [.log (.configId 0 cid 0x00ABCDEF), .save 11 [0xEF, 0xCD, 0xAB, 0, 6, 0] true,
        .notify 0 0x00ABCDEF 6, .resp (.channel 0x00ABCDEF 6)] := by decide
/-- V16, row 6: the save fails. -/
theorem test_configCode_save_fails :
    traceAfter (.configCode 0 9) (readyWith 6 false true) =
      some [.log (.configCode 0 6 9), .save 11 [3, 2, 1, 0, 9, 0] false,
        .log (.error (.persistenceError 0)), .notify 0 cid 9, .resp (.channel cid 9)] := by decide
/-- V16, row 4: the id before the code. -/
theorem test_configIdCode :
    traceAfter (.configIdCode 0 0x00ABCDEF 0x1233) (ready 6) =
      some [.log (.configId 0 cid 0x00ABCDEF), .log (.configCode 0 6 0x1233),
        .save 11 [0xEF, 0xCD, 0xAB, 0, 0x33, 0x12] true, .notify 0 0x00ABCDEF 0x1233,
        .resp (.channel 0x00ABCDEF 0x1233)] := by decide
/-- V18 and V41: the refusals of the slot operand change nothing but the mark. -/
theorem test_slot_refusals :
    nextOf (exec (.consume 0) fresh) =
        some ((fresh.withRefused true).withRefusedWith (some .notInitialised)) ∧
      nextOf (exec (.init 0) (ready 6)) =
        some (((ready 6).withRefused true).withRefusedWith (some .reinit)) ∧
      nextOf (exec (.init 2) fresh) =
        some ((fresh.withRefused true).withRefusedWith (some .badSlot)) := by decide

/-! ### PacketEncoder -/

/-- V20, the row with every id bit and code bit set, and V1. -/
theorem test_encodeF :
    encodeF 0x4 0xFFFFFFFF 0xFFFF = ⟨0xA7, 0x49, 0xFF, 0xFF, 0xFF, 0xFF, 0xFF⟩ ∧
      obfF (encodeF 0x4 0xFFFFFFFF 0xFFFF) = ⟨0xA7, 0xEE, 0x11, 0xEE, 0x11, 0xEE, 0x11⟩ ∧
      encodeF 0x8 0xCAFEF00D 1 = ⟨0xA7, 0x87, 0x00, 0x01, 0x0D, 0xF0, 0xFE⟩ := by decide
/-- V1 as the host operation ENCODE. -/
theorem test_encode :
    traceAfter (.encode 0x2 cid 5) fresh =
      some [.resp (.frames ⟨0xA7, 0x2A, 0x00, 0x05, 0x03, 0x02, 0x01⟩ o1)] := by decide
/-- V22: one flipped bit in the last byte is detected, one in the fourth is not. -/
theorem test_validF :
    validF o1 = true ∧ validF { o1 with b6 := 0x89 } = false ∧ validF { o1 with b3 := 0x89 } = true := by
  decide

/-! ### WaveformEncoder -/

/-- V30: 118 raw segments; the canonical form has 90 and begins with two pulses and the software sync. -/
theorem test_waveAbbr :
    (buildF o1 .abbreviated).length = 118 ∧ (canon (buildF o1 .abbreviated)).length = 90 ∧
      (canon (buildF o1 .abbreviated)).take 7 =
        [⟨.mark, 2416⟩, ⟨.space, 2416⟩, ⟨.mark, 2416⟩, ⟨.space, 2416⟩, ⟨.mark, 4550⟩, ⟨.space, 1208⟩,
          ⟨.mark, 1208⟩] := by decide
/-- V31: 128 raw segments, 100 in the canonical form. -/
theorem test_waveFull :
    (buildF o1 .full).length = 128 ∧ (canon (buildF o1 .full)).length = 100 ∧
      dur (buildF o1 .full) = 106626 ∧ markTime (buildF o1 .full) = 55286 := by decide +kernel
theorem test_wave_responses :
    traceAfter (.waveFull o1) fresh = some [.resp (.segments (buildF o1 .full))] ∧
      traceAfter (.waveAbbr o1) fresh = some [.resp (.segments (buildF o1 .abbreviated))] := by decide

/-! ### TransmissionScheduler -/

/-- V50: an ENQUEUE from Idle. -/
theorem test_controlOpen :
    ((nextOf (exec (.controlOpen 0) (ready 5))).map fun t => (t.q, t.active, t.pend, t.trace)) =
      some ([openCmd 0], true, some ⟨0, false⟩,
        [.save 11 [3, 2, 1, 0, 6, 0] true, .notify 0 cid 6, .resp .accepted]) := by decide
/-- V51: an ENQUEUE while Active keeps the continuation. -/
theorem test_controlClose_active :
    ((nextOf (exec (.controlClose 0) (stepping true true true [openCmd 0]))).map fun t => (t.q, t.pend)) =
      some ([openCmd 0, { ctl := 0x4, cid := cid, code := 6, req := 3, done := 0 }],
        some ⟨1000, true⟩) := by decide
/-- V52: a full queue. -/
theorem test_controlStop_full :
    ((nextOf (exec (.controlStop 0) { ready 5 with
      cfg := { params with queueDepth := some 1 }, q := [openCmd 0] })).map
        fun t => (t.refusedWith, (t.slot 0).code, t.trace)) = some (some .queueFull, 5, []) := by decide
/-- V53. -/
theorem test_controlInvalid3 :
    traceAfter (.controlInvalid3 0) (ready 5) =
      some [.log (.error (.invalidCommand 0 3)), .resp .ignored] := by decide
/-- V54: three repetitions configured, two for PROGRAM; one configured, one. -/
theorem test_program :
    ((nextOf (exec (.program 0) (ready 5))).map fun t => t.q.map Cmd.req) = some [2] ∧
      ((nextOf (exec (.program 0) { ready 5 with cfg := { params with repeats := 1 } })).map
        fun t => t.q.map Cmd.req) = some [1] := by decide
/-- V56: a failed batch is cancelled. -/
theorem test_step_cancels :
    ((nextOf (exec .step { stepping false true true [openCmd 1, stopCmd, stopCmd] with
      failureObserved := true })).map fun t => (t.q, t.failureObserved, t.active, t.pend, t.trace)) =
      some ([], false, false, none, [.log (.error (.configurationError 3))]) := by decide
/-- V57: the wakeup is accepted. -/
theorem test_step_wakeup :
    ((nextOf (exec .step (stepping false true true [openCmd 0]))).map
      fun t => (t.needsWakeup, t.wt, t.pend, t.trace)) =
      some (false, some 10001000, some ⟨100415, true⟩, [.tx .wakeup [⟨.mark, 9415⟩] true]) := by decide
/-- V58: the wakeup is rejected. -/
theorem test_step_wakeup_rejected :
    ((nextOf (exec .step (stepping false true false [openCmd 0]))).map
      fun t => (t.failureObserved, t.needsWakeup, t.wt, t.pend)) =
      some (true, true, none, some ⟨1000, false⟩) := by decide
/-- V59: after the wakeup the frame is abbreviated. -/
theorem test_step_frame :
    ((nextOf (exec .step (stepping true false true [openCmd 0]))).map fun t => (t.q, t.pend, t.trace)) =
      some ([openCmd 1], some ⟨1000 + 82466 + 30000, false⟩,
        [.tx .frame (buildF o1 .abbreviated) true]) := by decide +kernel
/-- V60: the last repetition pops the command. -/
theorem test_step_last_repetition :
    ((nextOf (exec .step (stepping false false true [openCmd 2, stopCmd]))).map fun t => (t.q, t.pend)) =
      some ([stopCmd], some ⟨1000 + 136626, false⟩) := by decide +kernel
/-- V64. -/
theorem test_wakeExpire :
    ((nextOf (exec .wakeExpire { ready 5 with now := 10001000, needsWakeup := false, wt := some 10001000 })).map
      fun t => (t.needsWakeup, t.wt, t.active, t.trace)) = some (true, none, false, []) := by decide
/-- V70: RESET in the middle of a batch. -/
theorem test_reset :
    ((nextOf (exec .reset (stepping false false true [openCmd 1]))).map fun t =>
      (t.q, t.needsWakeup, t.pend, t.ch.map ChanSlot.ready)) =
      some ([], true, none, [false, false]) := by decide
/-- R98: a reserved opcode sets the mark and nothing else. -/
theorem test_reserved :
    nextOf (exec (.reservedOp0 0) fresh) =
      some ((fresh.withRefused true).withRefusedWith (some .reservedOpcode)) := by decide
/-- R282: after RESET the block is quiescent and no operation was refused. -/
theorem test_reset_final : finalState (State.boot params) = true := by decide

/-! ### Witnesses: states and operands that meet the hypotheses of each obligation -/

/-- Slot 1, the last one, ready as well. -/
def bothReady : State :=
  (ready 0).withCh [{ ready := true, cid := cid, code := 0xFFFF }, { ready := true, cid := 0, code := 0 }]

/-- The transitions presented. -/
def presenting (turns : List Turn) (s : State) : State := s.withEnv { s.env with turns := turns }

theorem test_hyp_EncodeOfDecode : decode (.word 0x101) = .instr (.init 1) := by decide

theorem test_hyp_StepRunsDecodedOperation :
    (presenting [.input (.word 0x101)] fresh).nextTurn = .input (.word 0x101) ∧
      decode (.word 0x101) = .instr (.init 1) := by decide

theorem test_hyp_PlacedWordRunsNext : decodeTableWord 8 0x2 = some (.consume 0) := by decide

theorem test_hyp_EnvironmentAdvancesNow :
    (presenting [.advance 0] fresh).nextTurn = .advance 0 ∧
      (presenting [.advance 5] fresh).nextTurn = .advance 5 := by decide

theorem test_hyp_IllegalWordIsRefused :
    (presenting [.input (.word 0x11)] fresh).nextTurn = .input (.word 0x11) ∧
      decodeWord 0x11 = .reject (.refuse .reservedField) := by decide

theorem test_hyp_InitLoadsRecord :
    (let s := loading [0xFF, 0xFF, 0xFF, 0xFF, 0, 0]
     SlotsOk s ∧ (1 : SlotIx).toNat < s.cfg.nch ∧ (s.slot 1).ready = false ∧
      s.memReadResult (s.keyOf 1) = some [0xFF, 0xFF, 0xFF, 0xFF, 0, 0]) := by decide

/-- A coherent store and one that is not, a save that succeeds and one that fails. -/
theorem test_hyp_StorePortAnswers :
    ({ fresh with cfg := { params with storeCoherent := true } } : State).cfg.storeCoherent = true ∧
    (fresh.cfg.storeCoherent = false ∧ fresh.env.loads = none :: []) ∧
    fresh.env.saves = true :: [] ∧ (readyWith 6 false true).env.saves = false :: [] := by decide

theorem test_hyp_InitSeedsSlot :
    (SlotsOk fresh ∧ (1 : SlotIx).toNat < fresh.cfg.nch ∧ (fresh.slot 1).ready = false ∧
      fresh.env.rands = 0x12345678 :: 0xDEADBEEF :: [] ∧ fresh.memReadResult (fresh.keyOf 1) = none) ∧
    (loading [3, 2, 1, 0, 5]).memReadResult 11 = some [3, 2, 1, 0, 5] := by decide

theorem test_hyp_SlotOperandsChecked :
    ((Instr.init 2).slot? = some 2 ∧ fresh.cfg.nch ≤ (2 : SlotIx).toNat) ∧
    ((Instr.program 255).slot? = some 255 ∧ fresh.cfg.nch ≤ (255 : SlotIx).toNat) ∧
    ((1 : SlotIx).toNat < bothReady.cfg.nch ∧ (bothReady.slot 1).ready = true) ∧
    ((1 : SlotIx).toNat < fresh.cfg.nch ∧ Instr.consume 1 ≠ .init 1 ∧ (fresh.slot 1).ready = false) := by
  decide

/-- For ConsumeAdvancesCounter, ConfigAppliesPresentFields, ConfigNothingWarns and InvalidControlIsIgnored: the
first and the last slot, the stored codes 0xFFFF and 0, a save that succeeds and one that fails. -/
theorem test_hyp_readySlots :
    (SlotsOk bothReady ∧ (0 : SlotIx).toNat < bothReady.cfg.nch ∧ (bothReady.slot 0).ready = true ∧
      (bothReady.slot 0).code = 0xFFFF ∧ bothReady.saveReply = true) ∧
    ((1 : SlotIx).toNat < bothReady.cfg.nch ∧ (bothReady.slot 1).ready = true ∧
      (bothReady.slot 1).code = 0) ∧
    (SlotsOk (readyWith 0 false true) ∧ ((readyWith 0 false true).slot 0).ready = true ∧
      (readyWith 0 false true).saveReply = false) := by decide

theorem test_hyp_ConsumedCodesSkipZero :
    (let s := presenting (List.replicate 2 (.input (encode (.consume 0)))) (ready 0xFFFF)
     SlotsOk s ∧ (0 : SlotIx).toNat < s.cfg.nch ∧ (s.slot 0).ready = true ∧
      s.env.turns = List.replicate 2 (.input (encode (.consume 0))) ++ []) := by decide

/-- The levels differ (the clause on two levels), and a list alternates (the last clause). -/
theorem test_hyp_CanonicalFormAlternates :
    Level.mark ≠ .space ∧
    [markFor 1, spaceFor 2, markFor 3].IsChain (fun x y => x.level ≠ y.level) := by decide

theorem test_hyp_CanonicalFormDeterminesFrame :
    canon (buildF o1 .full) = canon (buildF (obfF (encodeF 0x2 cid 5)) .full) := by decide +kernel

/-- For ControlQueuesCommand and ProgramQueuesAtMostTwo: an unbounded queue, and a finite one with one place
left. -/
theorem test_hyp_roomInQueue :
    (let s := ready 5
     SlotsOk s ∧ (0 : SlotIx).toNat < s.cfg.nch ∧ (s.slot 0).ready = true ∧ s.cfg.queueDepth = none) ∧
    (let s := { ready 5 with cfg := { params with queueDepth := some 2 }, q := [openCmd 0] }
     SlotsOk s ∧ (0 : SlotIx).toNat < s.cfg.nch ∧ (s.slot 0).ready = true ∧
      ∀ depth ∈ s.cfg.queueDepth, s.q.length ≠ depth) := by decide

theorem test_hyp_FullQueueIsRefused :
    (let s := { ready 5 with cfg := { params with queueDepth := some 1 }, q := [openCmd 0] }
     (0 : SlotIx).toNat < s.cfg.nch ∧ (s.slot 0).ready = true ∧ s.cfg.queueDepth = some s.q.length) := by
  decide

theorem test_hyp_StepOnEmptyQueueGoesIdle :
    (let s := stepping false false true []
     s.pend = some ⟨1000, false⟩ ∧ 1000 ≤ s.now ∧ s.q = []) := by decide

theorem test_hyp_StepCancelsFailedBatch :
    (let s := { stepping false true true [openCmd 0] with failureObserved := true }
     s.pend = some ⟨1000, false⟩ ∧ 1000 ≤ s.now ∧ s.q ≠ [] ∧ s.failureObserved = true) := by decide

/-- An accepted and a rejected wakeup. -/
theorem test_hyp_StepSendsWakeup :
    ∀ tx ∈ [true, false], (let s := stepping false true tx [openCmd 0]
      s.pend = some ⟨1000, false⟩ ∧ 1000 ≤ s.now ∧ s.q ≠ [] ∧ s.failureObserved = false ∧
        s.needsWakeup = true ∧ s.txReply = tx) := by decide

/-- An accepted and a rejected frame, abbreviated and full, before and at the last repetition. -/
theorem test_hyp_StepSendsFrame :
    ∀ tx ∈ [true, false], ∀ ab ∈ [true, false], ∀ done ∈ [1#8, 2#8],
      (let s := stepping ab false tx [openCmd done]
       s.pend = some ⟨1000, ab⟩ ∧ 1000 ≤ s.now ∧ s.q = openCmd done :: [] ∧ s.failureObserved = false ∧
        s.needsWakeup = false ∧ s.txReply = tx) := by decide

theorem test_hyp_CarrierRejectsEveryBurst :
    { params with txCarrier := 433420000 }.txCarrier ≠ 0 ∧
      fresh.cfg.txCarrier = 0 ∧ fresh.env.txs = true :: [] := by decide

/-- Due exactly now. -/
theorem test_hyp_WakeExpireRearms :
    (let s := { ready 5 with now := 10001000, needsWakeup := false, wt := some 10001000 }
     s.wt = some 10001000 ∧ 10001000 ≤ s.now) := by decide

/-- One microsecond early, and nothing armed. -/
theorem test_hyp_DisabledEventsChangeNothing :
    (let s := { ready 5 with now := 999, pend := some ⟨1000, true⟩, wt := some 1000 }
     (∀ p ∈ s.pend, s.now < p.due) ∧ ∀ due ∈ s.wt, s.now < due) ∧
    ((∀ p ∈ fresh.pend, fresh.now < p.due) ∧ ∀ due ∈ fresh.wt, fresh.now < due) := by decide

theorem test_hyp_RejectionEmptiesQueueNextStep :
    (let s := presenting [.input .step, .input .step] (stepping false true false [openCmd 0, stopCmd])
     s.pend = some ⟨1000, false⟩ ∧ 1000 ≤ s.now ∧ s.q ≠ [] ∧ s.failureObserved = false ∧
      s.env.turns = .input .step :: .input .step :: [] ∧ s.txReply = false) := by decide

/-- Two commands with one repetition left each, both to be accepted. -/
def draining : State :=
  presenting (List.replicate 2 [Turn.advance 136626, .input .step]).flatten
    ((stepping false false true [openCmd 2, { stopCmd with req := 1 }]).withEnv
      { answers none true true [] with txs := [true, true] })

theorem test_hyp_QueueDrainsInOrder :
    (let s := draining
     (∀ c ∈ s.q, cmdOk c = true) ∧ s.needsWakeup = false ∧ s.failureObserved = false ∧
      s.cfg.txCarrier = 0 ∧ s.pend = some ⟨1000, false⟩ ∧ 1000 ≤ s.now + 136626 ∧
      106626 + s.cfg.ifg ≤ 136626 ∧ s.env.txs = List.replicate (remainingAll s.q) true ++ [] ∧
      s.env.turns =
        (List.replicate (remainingAll s.q) [.advance 136626, .input .step]).flatten ++ []) := by decide

theorem test_hyp_NoWakeupDuringCooldown :
    (let s := presenting [.input (encode (.controlStop 0))] (stepping false false true [openCmd 1])
     Machine.Inv s ∧ s.wt = some 10001000 ∧ 1 ≤ s.env.turns.length ∧ .input .reset ∉ s.env.turns ∧
      ∃ t, core.run 1 s = .next t ∧ t.now < 10001000) := by
  refine ⟨by decide, by decide, by decide, by decide, _, rfl, by decide⟩

/-- A refused state that goes on, and an operation that is refused. -/
theorem test_hyp_RefusalIsStickyAndInert :
    (∃ t, exec (.consume 0) ((ready 5).withRefused true) = .next t ∧
      ((ready 5).withRefused true).refused = true ∧ Instr.consume 0 ≠ .reset) ∧
    ∃ t, exec (.consume 0) fresh = .next t ∧ fresh.refused = false ∧ t.refused = true :=
  ⟨⟨_, rfl, by decide, by decide⟩, _, rfl, by decide, by decide⟩

/-- For StepKeepsInvariant, StepKeepsWakeupFirst and StepKeepsParameters. -/
theorem test_hyp_stepKeeps :
    (let s := presenting [.input .step] (stepping false true true [openCmd 0])
     Machine.Inv s ∧ WakeupFirst s ∧ ∃ t, step s = .next t) :=
  ⟨by decide, by decide, _, rfl⟩

/-- The wakeup was just accepted, its frame comes next. -/
theorem test_hyp_StepKeepsSyncModes :
    (let s := presenting [.input .step]
       ((stepping true false true [openCmd 0]).withTrace [.tx .wakeup wakeF true])
     Machine.Inv s ∧ AbbrevFollowsWakeup s ∧ FramesFollowWakeups s.trace ∧ ∃ t, step s = .next t) := by
  refine ⟨by decide, by decide, ?_, _, rfl⟩
  rintro (_ | ⟨e, _ | ⟨e', before⟩⟩) segs ok after h
  all_goals cases h

/-- For OnlyNamedSlotChanges, OperationsTakeNoTime, AtMostOneErrorPerOperation, OneResponseAtTheEnd,
StoreWrittenOnlyAtOwnKey and the first clause of QueueIsFifo. -/
theorem test_hyp_hostOperation :
    ∃ t, exec (.controlOpen 0) (readyWith 5 false true) = .next t ∧ Instr.controlOpen 0 ≠ .step ∧
      Instr.controlOpen 0 ≠ .wakeExpire ∧ Instr.controlOpen 0 ≠ .reset ∧
      (Instr.controlOpen 0).slot? ≠ some 1 ∧ 12 ≠ (readyWith 5 false true).keyOf 0 :=
  ⟨_, rfl, by decide, by decide, by decide, by decide, by decide⟩

/-- For the second clause of StoreWrittenOnlyAtOwnKey: an INIT and a CONFIG_CHANNEL with no field complete. -/
theorem test_hyp_StoreWrittenOnlyAtOwnKey :
    (∃ t, exec (.init 0) fresh = .next t) ∧ ∃ t, exec (.configNone 0) (ready 5) = .next t :=
  ⟨⟨_, rfl⟩, _, rfl⟩

/-- For EventsAnswerNothing and the second clause of QueueIsFifo. -/
theorem test_hyp_events :
    (∃ t, exec .step (stepping true false true [openCmd 0]) = .next t) ∧
      ∃ t, exec .wakeExpire (ready 5) = .next t := ⟨⟨_, rfl⟩, _, rfl⟩

/-- The six changes of a flag. -/
theorem test_hyp_FlagsChangeOnlyAsStated :
    (∃ t, exec .wakeExpire { ready 5 with now := 7, needsWakeup := false, wt := some 7 } = .next t ∧
      t.needsWakeup = true) ∧
    (∃ t, exec .step (stepping false true true [openCmd 0]) = .next t ∧ t.needsWakeup = false) ∧
    (∃ t, exec .step (stepping false true false [openCmd 0]) = .next t ∧ t.failureObserved = true) ∧
    (∃ t, exec .step { stepping false true true [openCmd 0] with failureObserved := true } = .next t ∧
      t.failureObserved = false) ∧
    (∃ t, exec (.program 0) (ready 5) = .next t ∧ (ready 5).active = false ∧ t.active = true) ∧
    ∃ t, exec .step (stepping false false true []) = .next t ∧ t.active = false :=
  ⟨⟨_, rfl, by decide⟩, ⟨_, rfl, by decide⟩, ⟨_, rfl, by decide⟩, ⟨_, rfl, by decide⟩,
    ⟨_, rfl, by decide, by decide⟩, _, rfl, by decide⟩

end Sys2Proof.Tests
end

/-! PROOFS. The architectural state (10_state.md): what every operation keeps, the invariant of the block, INIT's
seeded pair, the slots, flags and queue, the trace, the cooldown, and the reset state. -/

namespace Sys2Proof.Machine

/-! ### What an operation keeps -/

/-- RESET does one thing (R300). -/
theorem effect_reset {s t : State} (h : Effect .reset s t) : t = s.resetBlock := by
  cases h with
  | reset => rfl
  | _ => contradiction

/-- What RESET writes to the scheduler, the trace and the refusal mark (R55). -/
@[simp] theorem resetBlock_values (s : State) :
    s.resetBlock.q = [] ∧ s.resetBlock.needsWakeup = true ∧ s.resetBlock.failureObserved = false ∧
      s.resetBlock.active = false ∧ s.resetBlock.pend = none ∧ s.resetBlock.wt = none ∧
      s.resetBlock.trace = [] ∧ s.resetBlock.refused = false ∧ s.resetBlock.refusedWith = none :=
  ⟨rfl, rfl, rfl, rfl, rfl, rfl, rfl, rfl, rfl⟩

/-- No operation writes the parameters, RESET among them (R46, R300). -/
theorem effect_cfg {i : Instr} {s t : State} (h : Effect i s t) : t.cfg = s.cfg := by
  cases h with
  | step abbreviated _ => exact (State.schedulerStep_frame s abbreviated).1
  | _ => simp

/-- Only RESET writes `now` (R45, R55). -/
theorem effect_now {i : Instr} {s t : State} (h : Effect i s t) (hi : i ≠ .reset) : t.now = s.now := by
  cases h with
  | step abbreviated _ =>
    obtain ⟨_, _, hnow, _⟩ := State.schedulerStep_frame s abbreviated
    exact hnow
  | reset => exact absurd rfl hi
  | _ => simp

/-- Only RESET builds the channel file anew; every other operation leaves it as long as it was (R22). -/
theorem effect_ch_length {i : Instr} {s t : State} (h : Effect i s t) (hi : i ≠ .reset) :
    t.ch.length = s.ch.length := by
  cases h with
  | enqueue n ctl maxrep => simp [(State.enqueue_consumes s ctl n maxrep).1]
  | step abbreviated _ =>
    obtain ⟨_, hch, _⟩ := State.schedulerStep_frame s abbreviated
    rw [hch]
  | reset => exact absurd rfl hi
  | _ => simp

/-- The parameters stay valid and there stays one slot per key (R8, R20). -/
theorem effect_slotsOk {i : Instr} {s t : State} (h : Effect i s t) (hs : SlotsOk s) : SlotsOk t := by
  obtain ⟨hok, hlen⟩ := hs
  refine ⟨(effect_cfg h).symm ▸ hok, ?_⟩
  by_cases hi : i = .reset
  · subst hi
    simp [effect_reset h]
  · rw [effect_ch_length h hi, effect_cfg h, hlen]

/-- The store stays in canonical form: a save writes a whole record (R61, R63). -/
theorem effect_store_wf {i : Instr} {s t : State} (h : Effect i s t) (hs : Memory.wf s.store) :
    Memory.wf t.store := by
  cases h with
  | consume n => simpa [State.consumeBody] using State.persistSlot_wf (s.setCode n _) n (by simpa using hs)
  | configFields n a c =>
    simpa [State.configFields] using
      State.persistSlot_wf ((s.applyCid n a).applyCode n c) n (by simpa using hs)
  | enqueue n ctl maxrep =>
    obtain ⟨_, hstore, _⟩ := State.enqueue_consumes s ctl n maxrep
    simpa [hstore, State.consumeBody] using
      State.persistSlot_wf (s.setCode n _) n (by simpa using hs)
  | step abbreviated _ =>
    obtain ⟨_, _, _, _, _, hstore⟩ := State.schedulerStep_frame s abbreviated
    rwa [hstore]
  | _ => simpa using hs

/-- The refusal mark is set exactly where a reason is recorded (log 5): a refusal sets both, RESET clears both. -/
theorem effect_refusalMark {i : Instr} {s t : State} (h : Effect i s t)
    (hs : s.refused = s.refusedWith.isSome) : t.refused = t.refusedWith.isSome := by
  cases h with
  | step abbreviated _ =>
    obtain ⟨_, _, _, hrefused, hreason, _⟩ := State.schedulerStep_frame s abbreviated
    rw [hrefused, hreason, hs]
  | reset => simp
  | refuse r => simp
  | _ => simpa using hs

/-! ### What an operation does to the scheduler -/

/-- The queue, the flags and the timers move by an ENQUEUE, STEP, WAKE_EXPIRE and RESET alone. -/
theorem effect_scheduler {i : Instr} {s t : State} (h : Effect i s t) :
    SameScheduler s t ∨
    (∃ n ctl maxrep, i.slot? = some n ∧ s.queueFull = false ∧
      (isRequest ctl = true ∧ maxrep = s.cfg.repeats ∨ ctl = ctlProgram ∧ maxrep = programMaxReps) ∧
      t = (s.enqueue ctl n maxrep).respond .accepted) ∨
    (∃ abbreviated, i = .step ∧ s.stepEnabled = some abbreviated ∧ t = s.schedulerStep abbreviated) ∨
    (i = .wakeExpire ∧ s.wakeEnabled = true ∧ t = s.expireCooldown) ∨
    i = .reset ∧ t = s.resetBlock := by
  cases h with
  | enqueue n ctl maxrep hslot _ _ _ _ hfull hreq =>
    exact .inr (.inl ⟨n, ctl, maxrep, hslot, hfull, hreq, rfl⟩)
  | step abbreviated he => exact .inr (.inr (.inl ⟨abbreviated, rfl, he, rfl⟩))
  | wakeExpire he => exact .inr (.inr (.inr (.inl ⟨rfl, he, rfl⟩)))
  | reset => exact .inr (.inr (.inr (.inr ⟨rfl, rfl⟩)))
  | _ => exact .inl (by simp [SameScheduler])

/-- `min(P_REPEATS, maxrep)` is at least 1 where both are (R220). -/
theorem repetitions_pos {configured maxrep : BitVec 8} (hc : configured ≠ 0) (hm : maxrep ≠ 0) :
    0 < (repetitions configured maxrep).toNat := by
  have hpos : repetitions configured maxrep ≠ 0 := by
    unfold repetitions
    split <;> assumption
  exact Nat.pos_of_ne_zero fun h => hpos (BitVec.eq_of_toNat_eq h)

/-- The requests of CONTROL and PROGRAM are the four control codes (R93, R94). -/
theorem isControlCode_of_request {ctl : Nibble} (h : isRequest ctl = true ∨ ctl = ctlProgram) :
    isControlCode ctl = true := by
  revert ctl
  decide

/-- Valid parameters repeat a command at least once (R8). -/
theorem repeats_ne_zero {p : Params} (h : p.ok = true) : p.repeats ≠ 0 := by
  simp only [Params.ok, Bool.and_eq_true, decide_eq_true_eq] at h
  obtain ⟨⟨_, hrep⟩, _⟩ := h
  exact hrep

/-- The checks on a queue entry, one by one (R31, R93). -/
theorem cmdOk_iff {c : Cmd} : cmdOk c = true ↔
    isControlCode c.ctl = true ∧ c.code ≠ 0 ∧ 0 < c.req.toNat ∧ c.done.toNat < c.req.toNat := by
  simp [cmdOk, Nat.one_le_iff_ne_zero, Nat.pos_iff_ne_zero, and_assoc]

/-- The entry an ENQUEUE appends is well formed (R31, R134). -/
theorem cmdOk_newCmd {s : State} {ctl : Nibble} {maxrep : BitVec 8} (n : SlotIx) (hok : s.cfg.ok = true)
    (hreq : isRequest ctl = true ∧ maxrep = s.cfg.repeats ∨ ctl = ctlProgram ∧ maxrep = programMaxReps) :
    cmdOk (s.newCmd ctl n maxrep) = true := by
  have hrep := repeats_ne_zero hok
  have hctl : isControlCode ctl = true := isControlCode_of_request (hreq.imp And.left And.left)
  have hmax : maxrep ≠ 0 := by
    rcases hreq with ⟨_, rfl⟩ | ⟨_, rfl⟩
    · exact hrep
    · decide
  have hpos := repetitions_pos hrep hmax
  exact cmdOk_iff.2 ⟨hctl, nextCode_ne_zero _, hpos, hpos⟩

/-- One more repetition keeps the queue well formed: the head goes when its count is reached (R31, R246). -/
theorem cmdOk_afterRepetition {c : Cmd} {rest : List Cmd} (h : ∀ x ∈ c :: rest, cmdOk x = true) :
    ∀ x ∈ afterRepetition c rest, cmdOk x = true := by
  obtain ⟨hc, hrest⟩ := List.forall_mem_cons.1 h
  unfold afterRepetition
  dsimp only
  split
  · exact hrest
  · rename_i hlt
    obtain ⟨hctl, hcode, hreq, _⟩ := cmdOk_iff.1 hc
    exact List.forall_mem_cons.2 ⟨cmdOk_iff.2 ⟨hctl, hcode, hreq, BitVec.not_le.1 hlt⟩, hrest⟩

/-- One more repetition leaves the queue no longer than it was. -/
theorem length_afterRepetition_le (c : Cmd) (rest : List Cmd) :
    (afterRepetition c rest).length ≤ (c :: rest).length := by
  unfold afterRepetition
  dsimp only
  split <;> simp

/-- STEP is enabled only while a continuation is pending (R240). -/
theorem pend_of_stepEnabled {s : State} {abbreviated : Bool} (h : s.stepEnabled = some abbreviated) :
    s.pend ≠ none := by
  intro hp
  simp [State.stepEnabled, hp] at h

/-- WAKE_EXPIRE is enabled only from the armed due time on (R250). -/
theorem wakeEnabled_iff {s : State} : s.wakeEnabled = true ↔ ∃ due, s.wt = some due ∧ due ≤ s.now := by
  unfold State.wakeEnabled
  cases s.wt <;> simp

/-- An ENQUEUE onto a queue that is not full stays within a finite capacity (R30, R221). -/
theorem length_lt_of_not_queueFull {s : State} (hfull : s.queueFull = false)
    (h : ∀ depth ∈ s.cfg.queueDepth, s.q.length ≤ depth) :
    ∀ depth ∈ s.cfg.queueDepth, s.q.length < depth := by
  intro depth hd
  have hne : s.q.length ≠ depth := by
    rintro rfl
    simp [State.queueFull, Option.mem_def.1 hd] at hfull
  exact Nat.lt_of_le_of_ne (h depth hd) hne

/-- STEP keeps the queue's entries well formed and within the capacity. -/
theorem schedulerStep_queueOk {s : State} (abbreviated : Bool) (hs : QueueOk s) :
    QueueOk (s.schedulerStep abbreviated) := by
  obtain ⟨hcmds, hcap⟩ := hs
  rcases State.schedulerStep_cases s abbreviated with
    ⟨hq, e⟩ | ⟨_, _, e⟩ | ⟨_, _, _, e⟩ | ⟨c, rest, hq, _, _, e⟩ <;> rw [e]
  · simp [QueueOk, hq]
  · simp [QueueOk]
  · simpa [QueueOk] using ⟨hcmds, hcap⟩
  · obtain ⟨_, hq', _⟩ := State.frameStep_fields s abbreviated c rest
    rw [QueueOk, hq', (State.frameStep_frame _ abbreviated c rest).1]
    split
    · rw [hq] at hcmds hcap
      exact ⟨cmdOk_afterRepetition hcmds,
        fun depth hd => (length_afterRepetition_le c rest).trans (hcap depth hd)⟩
    · exact ⟨hcmds, hcap⟩

/-- Every operation keeps the queue's entries well formed and within the capacity (R30, R31). -/
theorem effect_queueOk {i : Instr} {s t : State} (h : Effect i s t) (hok : s.cfg.ok = true)
    (hs : QueueOk s) : QueueOk t := by
  rcases effect_scheduler h with
    ⟨hq, _⟩ | ⟨n, ctl, maxrep, _, hfull, hreq, rfl⟩ | ⟨abbreviated, _, _, rfl⟩ | ⟨_, _, rfl⟩ | ⟨_, rfl⟩
  · rwa [QueueOk, hq, effect_cfg h]
  · obtain ⟨hcmds, hcap⟩ := hs
    have hlt := length_lt_of_not_queueFull hfull hcap
    simpa [QueueOk, or_imp, forall_and, Nat.succ_le_iff] using
      ⟨⟨hcmds, cmdOk_newCmd n hok hreq⟩, hlt⟩
  · exact schedulerStep_queueOk abbreviated hs
  · simpa [QueueOk] using hs
  · simp [QueueOk]

/-- Every operation keeps Active tied to the pending continuation (R38). -/
theorem effect_activeIffPending {i : Instr} {s t : State} (h : Effect i s t) (hs : ActiveIffPending s) :
    ActiveIffPending t := by
  have hiff : s.active = true ↔ s.pend ≠ none := hs.1
  rcases effect_scheduler h with
    ⟨hq, _, _, ha, hp, _⟩ | ⟨n, ctl, maxrep, _, _, _, rfl⟩ | ⟨abbreviated, _, he, rfl⟩ | ⟨_, _, rfl⟩ |
      ⟨_, rfl⟩
  · rwa [ActiveIffPending, hq, ha, hp]
  · have hpend : (s.enqueue ctl n maxrep).pend ≠ none := by
      rw [State.enqueue_pend]
      split
      · exact hiff.1 ‹_›
      · simp
    simp [ActiveIffPending, hpend]
  · have hactive : s.active = true := hiff.2 (pend_of_stepEnabled he)
    rcases State.schedulerStep_cases s abbreviated with
      ⟨hq, e⟩ | ⟨_, _, e⟩ | ⟨_, _, _, e⟩ | ⟨c, rest, _, _, _, e⟩ <;> rw [e]
    · simp [ActiveIffPending, hq]
    · simp [ActiveIffPending]
    · simp [ActiveIffPending, State.wakeStep_fields, hactive]
    · simp [ActiveIffPending, State.frameStep_fields, hactive]
  · simpa [ActiveIffPending] using hs
  · simp [ActiveIffPending]

/-- Every operation keeps a batch to cancel where a failure is observed (R39). -/
theorem effect_failureHasBatch {i : Instr} {s t : State} (h : Effect i s t) (hs : FailureHasBatch s)
    (hactive : ActiveIffPending s) : FailureHasBatch t := by
  rcases effect_scheduler h with
    ⟨hq, _, hf, _, hp, _⟩ | ⟨n, ctl, maxrep, _, _, _, rfl⟩ | ⟨abbreviated, _, _, rfl⟩ | ⟨_, _, rfl⟩ |
      ⟨_, rfl⟩
  · rwa [FailureHasBatch, hf, hq, hp]
  · intro hf
    obtain ⟨_, hp⟩ := hs (by simpa using hf)
    simp [State.enqueue_pend, hactive.1.2 hp, hp]
  · rcases State.schedulerStep_cases s abbreviated with
      ⟨hq, e⟩ | ⟨_, _, e⟩ | ⟨hq, _, _, e⟩ | ⟨c, rest, hq, hf, _, e⟩ <;> rw [e]
    · intro hf
      exact absurd hq (hs (by simpa using hf)).1
    · simp [FailureHasBatch]
    · simp [FailureHasBatch, State.wakeStep_fields, hq]
    · cases hr : s.txReply <;> simp [FailureHasBatch, State.frameStep_fields, hr, hq, hf]
  · simpa [FailureHasBatch] using hs
  · simp [FailureHasBatch]

/-- Every operation keeps the cooldown timer armed exactly while no wakeup is needed (R42). -/
theorem effect_cooldownIffAwake {i : Instr} {s t : State} (h : Effect i s t) (hs : CooldownIffAwake s) :
    CooldownIffAwake t := by
  rcases effect_scheduler h with
    ⟨_, hn, _, _, _, hw⟩ | ⟨n, ctl, maxrep, _, _, _, rfl⟩ | ⟨abbreviated, _, _, rfl⟩ | ⟨_, _, rfl⟩ | ⟨_, rfl⟩
  · rwa [CooldownIffAwake, hn, hw]
  · simpa [CooldownIffAwake] using hs
  · rcases State.schedulerStep_cases s abbreviated with
      ⟨_, e⟩ | ⟨_, _, e⟩ | ⟨_, _, hn, e⟩ | ⟨c, rest, _, _, _, e⟩ <;> rw [e]
    · simpa [CooldownIffAwake] using hs
    · simpa [CooldownIffAwake] using hs
    · cases hr : s.txReply with
      | false => simpa [CooldownIffAwake, State.wakeStep_fields, hr] using hs
      | true => simp [CooldownIffAwake, State.wakeStep_fields, hr]
    · simpa [CooldownIffAwake] using hs
  · simp [CooldownIffAwake]
  · simp [CooldownIffAwake]

/-- Every operation keeps the invariant of the block. -/
theorem effect_inv {i : Instr} {s t : State} (h : Effect i s t) (hs : Inv s) : Inv t := by
  obtain ⟨hslots, hqueue, hactive, hfailure, hcooldown, hstore, hmark⟩ := hs
  exact ⟨effect_slotsOk h hslots, effect_queueOk h hslots.1 hqueue, effect_activeIffPending h hactive,
    effect_failureHasBatch h hfailure hactive, effect_cooldownIffAwake h hcooldown,
    effect_store_wf h hstore, effect_refusalMark h hmark⟩

/-- The invariant speaks of the parameters, the channel file, the scheduler, the store and the refusal mark
alone. -/
theorem inv_of_same {s t : State} (hs : Inv s) (hcfg : t.cfg = s.cfg) (hch : t.ch = s.ch)
    (hsched : SameScheduler s t) (hstore : t.store = s.store) (hmark : t.refused = t.refusedWith.isSome) :
    Inv t := by
  obtain ⟨hq, hn, hf, ha, hp, hw⟩ := hsched
  obtain ⟨hslots, hqueue, hactive, hfailure, hcooldown, hwf, _⟩ := hs
  refine ⟨?_, ?_, ?_, ?_, ?_, ?_, hmark⟩
  · rwa [SlotsOk, hcfg, hch]
  · rwa [QueueOk, hcfg, hq]
  · rwa [ActiveIffPending, ha, hp, hq]
  · rwa [FailureHasBatch, hf, hq, hp]
  · rwa [CooldownIffAwake, hn, hw]
  · rwa [hstore]

/-- Settles O47: taking up the chosen transition, advancing `now` and refusing a word touch nothing the invariant
speaks of but the mark, and each operation keeps it conjunct by conjunct. -/
theorem stepKeepsInvariant : Obligations.StepKeepsInvariant := by
  intro s t hs h
  have hmark : s.refused = s.refusedWith.isSome := by
    obtain ⟨_, _, _, _, _, _, h⟩ := hs
    exact h
  have hpop : Inv s.popTurn :=
    inv_of_same hs (by simp) (by simp) (by simp [SameScheduler]) (by simp) (by simpa using hmark)
  rcases step_cases h with ⟨d, _, rfl⟩ | ⟨w, r, _, rfl⟩ | ⟨x, i, _, _, he⟩
  · exact inv_of_same hpop (by simp) (by simp) (by simp [SameScheduler]) (by simp) (by simpa using hmark)
  · exact inv_of_same hpop (by simp) (by simp) (by simp [SameScheduler]) (by simp) (by simp)
  · exact effect_inv he hpop

/-! ### INIT and the slots of the channel file -/

/-- A seeded code is the low 15 bits of the draw (R139). -/
theorem seedCode_toNat (b : BitVec 32) : (seedCode b).toNat = b.toNat % 0x8000 := by
  have hmask : seedCodeMask.toNat = 2 ^ 15 - 1 := rfl
  rw [seedCode, BitVec.toNat_and, hmask, Nat.and_two_pow_sub_one_eq_mod, BitVec.extractLsb'_toNat]
  omega

/-- INIT's last part marks the slot ready. -/
theorem finishInit_slot_same (s : State) (n : SlotIx) (h : n.toNat < s.ch.length) :
    (s.finishInit n).slot n = { s.slot n with ready := true } := by
  rw [← State.slot_setSlot_same s n { s.slot n with ready := true } h]
  exact State.slot_congr (by simp [State.finishInit]) n

/-- INIT's last part leaves every other slot alone. -/
theorem finishInit_slot_other (s : State) (n m : SlotIx) (h : m ≠ n) :
    (s.finishInit n).slot m = s.slot m := by
  rw [← State.slot_setSlot_other s n m { s.slot n with ready := true } h]
  exact State.slot_congr (by simp [State.finishInit]) m

/-- INIT's last part logs the slot's values and answers them. -/
theorem finishInit_trace (s : State) (n : SlotIx) :
    (s.finishInit n).trace = s.trace ++ [.log (.initState n (s.slot n).cid (nextCode (s.slot n).code)),
      .resp (.channel (s.slot n).cid (s.slot n).code)] := by
  simp [State.finishInit]

/-- The state INIT finishes where the load failed: two draws, the channel id first, and the pair logged. -/
def seededSlot (n : SlotIx) (s : State) : State :=
  (((s.rand32.rand32).setCid n s.randReply).setCode n (seedCode s.rand32.randReply)).log (.freshPair n)

theorem initSeeded_eq (s : State) (n : SlotIx) : s.initSeeded n = (seededSlot n s).finishInit n := rfl

theorem seededSlot_slot_same (s : State) (n : SlotIx) (h : n.toNat < s.ch.length) :
    (seededSlot n s).slot n =
      { s.slot n with cid := s.randReply, code := seedCode s.rand32.randReply } := by
  have hch : s.rand32.rand32.ch = s.ch := by simp
  have h1 : n.toNat < s.rand32.rand32.ch.length := by rwa [hch]
  calc (seededSlot n s).slot n
      = ((s.rand32.rand32.setCid n s.randReply).setCode n (seedCode s.rand32.randReply)).slot n :=
        State.slot_congr (by simp [seededSlot]) n
    _ = _ := by
      rw [State.setCode_slot_same _ n _ (by simpa using h1), State.setCid_slot_same _ n _ h1,
        State.slot_congr hch n]

theorem initSeeded_slot_other (s : State) (n m : SlotIx) (h : m ≠ n) :
    (s.initSeeded n).slot m = s.slot m := by
  have hch : s.rand32.rand32.ch = s.ch := by simp
  rw [initSeeded_eq, finishInit_slot_other _ n m h]
  calc (seededSlot n s).slot m
      = ((s.rand32.rand32.setCid n s.randReply).setCode n (seedCode s.rand32.randReply)).slot m :=
        State.slot_congr (by simp [seededSlot]) m
    _ = _ := by
      rw [State.setCode_slot_other _ n m _ h, State.setCid_slot_other _ n m _ h, State.slot_congr hch m]

/-- INIT leaves every other slot alone (R22). -/
theorem initSlot_slot_other (s : State) (n m : SlotIx) (h : m ≠ n) : (s.initSlot n).slot m = s.slot m := by
  unfold State.initSlot
  split
  · rw [State.initLoaded, finishInit_slot_other _ n m h, State.setCode_slot_other _ n m _ h,
      State.setCid_slot_other _ n m _ h]
    exact State.slot_congr (by simp) m
  · rw [initSeeded_slot_other _ n m h]
    exact State.slot_congr (by simp) m

/-- A load takes nothing from the RNG port's answers. -/
@[simp] theorem memRead_rands (s : State) (key : Nat) : (s.memRead key).env.rands = s.env.rands := by
  unfold State.memRead State.popLoad
  split
  · rfl
  · split <;> rfl

/-- A draw answers the first of the environment's listed values and uses it up (R52). -/
theorem rand32_of_cons {s : State} {x : BitVec 32} {rest : List (BitVec 32)} (h : s.env.rands = x :: rest) :
    s.randReply = x ∧ s.rand32.env.rands = rest := by
  simp [State.randReply, State.rand32, State.popRand, h]

/-- A load whose record is absent or of a wrong length fails (R62). -/
theorem loadedRecord_eq_none {s : State} {key : Nat} (h : ∀ r ∈ s.memReadResult key, r.length ≠ 6) :
    s.loadedRecord key = none := by
  simpa [State.loadedRecord, Option.filter_eq_none_iff] using h

/-- INIT of a slot in the file that is not ready is performed. -/
theorem exec_init {s : State} {n : SlotIx} (hn : n.toNat < s.cfg.nch) (hr : (s.slot n).ready = false) :
    exec (.init n) s = .next (s.initSlot n) := by
  simp [exec, execInit, State.guardFresh, hn, hr]

/-- Settles O11. -/
theorem initSeedsSlot : Obligations.InitSeedsSlot := by
  intro s n hslots hn hr hload
  obtain ⟨_, hlen⟩ := hslots
  have hinit : s.initSlot n = (s.memRead (s.keyOf n)).initSeeded n := by
    simp [State.initSlot, loadedRecord_eq_none hload]
  have hch : (s.memRead (s.keyOf n)).ch = s.ch := by simp
  have hfile : n.toNat < (s.memRead (s.keyOf n)).ch.length := by rw [hch, hlen]; exact hn
  have hslot := seededSlot_slot_same (s.memRead (s.keyOf n)) n hfile
  refine ⟨(s.memRead (s.keyOf n)).randReply, (s.memRead (s.keyOf n)).rand32.randReply, _, s.initSlot n,
    exec_init hn hr, ?_, seedCode_toNat _, ?_, ?_, ⟨by simp, fun m hm => initSlot_slot_other s n m hm⟩,
    fun k => by simp, by simp [SameMarks], by simp [SameScheduler]⟩
  · intro x y rest h
    obtain ⟨hx, hrest⟩ := rand32_of_cons (s := s.memRead (s.keyOf n)) (by simpa using h)
    exact ⟨hx, (rand32_of_cons hrest).1⟩
  · rw [hinit, initSeeded_eq, finishInit_slot_same _ n (by simpa [seededSlot] using hfile), hslot]
  · rw [hinit, initSeeded_eq, finishInit_trace, hslot]
    simp [seededSlot, nextCode]


/-! ### The other slots of the channel file -/

/-- The optional new channel id leaves every other slot alone. -/
theorem applyCid_slot_other (s : State) (n m : SlotIx) (a : Option Cid) (h : m ≠ n) :
    (s.applyCid n a).slot m = s.slot m := by
  cases a with
  | none => rfl
  | some v =>
    rw [State.applyCid, State.setCid_slot_other _ n m v h]
    exact State.slot_congr (by simp) m

/-- The optional new stored code leaves every other slot alone. -/
theorem applyCode_slot_other (s : State) (n m : SlotIx) (c : Option Code) (h : m ≠ n) :
    (s.applyCode n c).slot m = s.slot m := by
  cases c with
  | none => rfl
  | some v =>
    rw [State.applyCode, State.setCode_slot_other _ n m v h]
    exact State.slot_congr (by simp) m

/-- CONFIG_CHANNEL leaves every other slot alone (R22). -/
theorem configFields_slot_other (s : State) (n m : SlotIx) (a : Option Cid) (c : Option Code) (h : m ≠ n) :
    (s.configFields n a c).slot m = s.slot m := by
  calc (s.configFields n a c).slot m
      = ((s.applyCid n a).applyCode n c).slot m := State.slot_congr (by simp [State.configFields]) m
    _ = s.slot m := (applyCode_slot_other _ n m c h).trans (applyCid_slot_other s n m a h)

/-- No operation but RESET changes a slot other than the one it names (R22, R137). -/
theorem effect_slot_other {i : Instr} {s t : State} (h : Effect i s t) (hi : i ≠ .reset) {m : SlotIx}
    (hm : i.slot? ≠ some m) : t.slot m = s.slot m := by
  have hne : ∀ n, i.slot? = some n → m ≠ n := by
    rintro n hn rfl
    exact hm hn
  cases h with
  | init n => exact initSlot_slot_other s n m (hne n rfl)
  | consume n =>
    rw [← State.consumeBody_slot_other s n m (hne n rfl)]
    exact State.slot_congr (by simp) m
  | configFields n a c hn => exact configFields_slot_other s n m a c (hne n hn)
  | enqueue n ctl maxrep hn =>
    rw [← State.consumeBody_slot_other s n m (hne n hn)]
    exact State.slot_congr (by simp [(State.enqueue_consumes s ctl n maxrep).1]) m
  | step abbreviated _ => exact State.slot_congr (State.schedulerStep_frame s abbreviated).2.1 m
  | reset => exact absurd rfl hi
  | _ => exact State.slot_congr (by simp) m

/-- Settles O51. -/
theorem onlyNamedSlotChanges : Obligations.OnlyNamedSlotChanges := by
  intro i s t hi h
  have he := exec_effect h
  exact ⟨effect_ch_length he hi, fun m hm => effect_slot_other he hi hm⟩

/-! ### Parameters and time -/

/-- Settles O50. -/
theorem stepKeepsParameters : Obligations.StepKeepsParameters := by
  intro s t h
  rcases step_cases h with ⟨d, _, rfl⟩ | ⟨w, r, _, rfl⟩ | ⟨x, i, _, _, he⟩
  · simp
  · simp
  · simp [effect_cfg he]

/-- Settles O52. -/
theorem operationsTakeNoTime : Obligations.OperationsTakeNoTime :=
  fun _ _ _ hi h => effect_now (exec_effect h) hi

/-- Settles O8. -/
theorem environmentAdvancesNow : Obligations.EnvironmentAdvancesNow := by
  intro s d h
  exact ⟨s.popTurn.advance d, by simp only [step, h, runTurn], by simp [SameScheduler]⟩

/-! ### The flags and the queue -/

/-- Settles O53: an ENQUEUE sets active with the entry it appends, WAKE_EXPIRE sets needs_wakeup, RESET writes all
three flags; of STEP's cases the first two clear active with the queue empty, the second clears failure_observed, and
a burst's answer decides between clearing needs_wakeup and setting failure_observed. -/
theorem flagsChangeOnlyAsStated : Obligations.FlagsChangeOnlyAsStated := by
  intro i s t h
  rcases effect_scheduler (exec_effect h) with
    ⟨hq, hn, hf, ha, _⟩ | ⟨n, ctl, maxrep, _, _, _, rfl⟩ | ⟨abbreviated, rfl, _, rfl⟩ | ⟨rfl, _, rfl⟩ |
      ⟨rfl, rfl⟩
  · simp +contextual [hn, hf, ha]
  · simp +contextual
  · rcases State.schedulerStep_cases s abbreviated with
      ⟨hq, e⟩ | ⟨hq, _, e⟩ | ⟨_, hf, hn, e⟩ | ⟨c, rest, _, hf, hn, e⟩ <;> rw [e]
    · simp +contextual [hq]
    · simp +contextual [hq]
    · cases hr : s.txReply <;> simp +contextual [State.wakeStep_fields, hr, hf, hn]
    · cases hr : s.txReply <;> simp +contextual [State.frameStep_fields, hr, hf, hn]
  · simp +contextual
  · simp
/-- One more repetition of the head removes it or counts it, and changes nothing else (R246). -/
theorem afterRepetition_cases (c : Cmd) (rest : List Cmd) :
    afterRepetition c rest = rest ∨ afterRepetition c rest = { c with done := c.done + 1 } :: rest := by
  unfold afterRepetition
  dsimp only
  split <;> simp

/-- STEP leaves the queue, empties it, or repeats its head once. -/
theorem schedulerStep_queue (s : State) (abbreviated : Bool) :
    (s.schedulerStep abbreviated).q = s.q ∨ (s.schedulerStep abbreviated).q = [] ∨
      ∃ c rest, s.q = c :: rest ∧ ((s.schedulerStep abbreviated).q = rest ∨
        (s.schedulerStep abbreviated).q = { c with done := c.done + 1 } :: rest) := by
  rcases State.schedulerStep_cases s abbreviated with
    ⟨_, e⟩ | ⟨_, _, e⟩ | ⟨_, _, _, e⟩ | ⟨c, rest, hq, _, _, e⟩ <;> rw [e]
  · simp
  · simp
  · simp
  · obtain ⟨_, hq', _⟩ := State.frameStep_fields s abbreviated c rest
    rw [hq']
    split
    · exact .inr (.inr ⟨c, rest, hq, afterRepetition_cases c rest⟩)
    · exact .inl rfl

/-- Settles O54. -/
theorem queueIsFifo : Obligations.QueueIsFifo := by
  intro i s t h
  rcases effect_scheduler (exec_effect h) with
    ⟨hq, _⟩ | ⟨n, ctl, maxrep, hslot, _, _, rfl⟩ | ⟨abbreviated, rfl, _, rfl⟩ | ⟨rfl, _, rfl⟩ | ⟨rfl, rfl⟩
  · exact ⟨fun _ _ => .inl hq, fun _ => .inl hq⟩
  · refine ⟨fun _ _ => .inr ⟨s.newCmd ctl n maxrep, by simp⟩, ?_⟩
    rintro rfl
    cases hslot
  · exact ⟨fun hstep => absurd rfl hstep, fun _ => schedulerStep_queue s abbreviated⟩
  · exact ⟨fun _ _ => .inl (by simp), nofun⟩
  · exact ⟨fun _ hreset => absurd rfl hreset, nofun⟩

/-! ### The trace -/

/-- From `s` to `t` the trace gains events, no burst among them and at most `errors` logs of an error. -/
def Emits (errors : Nat) (s t : State) : Prop :=
  ∃ new, t.trace = s.trace ++ new ∧ bursts new = [] ∧ (new.filter isErrorOrRejection).length ≤ errors

/-- Events that are neither a burst nor an error. -/
theorem Emits.of_trace {s t : State} (new : List Event) (h : t.trace = s.trace ++ new)
    (hq : ∀ e ∈ new, burstOf e = none ∧ isErrorOrRejection e = false) : Emits 0 s t := by
  have hnone : new.filter isErrorOrRejection = [] :=
    List.filter_eq_nil_iff.2 fun e he => by simp [(hq e he).2]
  exact ⟨new, h, List.filterMap_eq_nil_iff.2 fun e he => (hq e he).1, by simp [hnone]⟩

/-- An update of anything but the trace. -/
theorem Emits.of_same {s t : State} (h : t.trace = s.trace) : Emits 0 s t :=
  .of_trace [] (by simpa using h) (by simp)

/-- One event that is neither a burst nor an error. -/
theorem Emits.emit (s : State) (e : Event) (hb : burstOf e = none) (he : isErrorOrRejection e = false) :
    Emits 0 s (s.emit e) :=
  .of_trace [e] rfl (by simp [hb, he])

/-- One raised error (R270). -/
theorem Emits.raise (s : State) (e : BlockError) : Emits 1 s (s.raise e) :=
  ⟨[.log (.error e)], rfl, rfl, Nat.le_refl 1⟩

theorem Emits.trans {m n : Nat} {s t u : State} (h₁ : Emits m s t) (h₂ : Emits n t u) :
    Emits (m + n) s u := by
  obtain ⟨a, ha, hba, hea⟩ := h₁
  obtain ⟨b, hb, hbb, heb⟩ := h₂
  refine ⟨a ++ b, by rw [hb, ha, List.append_assoc], ?_, ?_⟩
  · rw [bursts, List.filterMap_append]
    exact List.append_eq_nil_iff.2 ⟨hba, hbb⟩
  · rw [List.filter_append, List.length_append]
    exact Nat.add_le_add hea heb

theorem Emits.weaken {s t : State} : Emits 0 s t → Emits 1 s t :=
  fun ⟨new, h, hb, he⟩ => ⟨new, h, hb, he.trans (Nat.zero_le 1)⟩

/-- A save adds its one error where it failed (R133, R275). -/
theorem emits_persistSlot (s : State) (n : SlotIx) : Emits 1 s (s.persistSlot n) := by
  refine ⟨_, State.persistSlot_trace s n, ?_⟩
  cases s.saveReply with
  | false => exact ⟨rfl, Nat.le_refl 1⟩
  | true => exact ⟨rfl, Nat.zero_le 1⟩

theorem emits_consumeBody (s : State) (n : SlotIx) : Emits 1 s (s.consumeBody n) :=
  (Emits.of_same (by simp)).trans (emits_persistSlot (s.setCode n _) n)

theorem emits_applyCid (s : State) (n : SlotIx) (a : Option Cid) : Emits 0 s (s.applyCid n a) := by
  cases a with
  | none => exact .of_same rfl
  | some v =>
    exact .of_trace [.log (.configId n (s.slot n).cid v)] (by simp [State.applyCid])
      (by simp [burstOf, isErrorOrRejection])

theorem emits_applyCode (s : State) (n : SlotIx) (c : Option Code) : Emits 0 s (s.applyCode n c) := by
  cases c with
  | none => exact .of_same rfl
  | some v =>
    exact .of_trace [.log (.configCode n (s.slot n).code v)] (by simp [State.applyCode])
      (by simp [burstOf, isErrorOrRejection])

/-- CONFIG_CHANNEL with a field raises an error only in its one save (R135). -/
theorem emits_configFields (s : State) (n : SlotIx) (a : Option Cid) (c : Option Code) :
    Emits 1 s (s.configFields n a c) :=
  (((emits_applyCid s n a).trans (emits_applyCode _ n c)).trans (emits_persistSlot _ n)).trans
    (.emit _ _ rfl rfl)

theorem emits_finishInit (s : State) (n : SlotIx) : Emits 0 s (s.finishInit n) :=
  .of_trace _ (finishInit_trace s n) (by simp [burstOf, isErrorOrRejection])

/-- INIT raises no error, a failed load among its cases (R130). -/
theorem emits_initSlot (s : State) (n : SlotIx) : Emits 0 s (s.initSlot n) := by
  have hload : Emits 0 s (s.memRead (s.keyOf n)) :=
    .of_trace _ (State.memRead_trace s _) (by simp [burstOf, isErrorOrRejection])
  unfold State.initSlot
  split
  · exact (hload.trans (.of_same (by simp))).trans (emits_finishInit _ n)
  · have hdraws (t : State) : Emits 0 t (seededSlot n t) :=
      .of_trace [.rand t.randReply, .rand t.rand32.randReply, .log (.freshPair n)] (by simp [seededSlot])
        (by simp [burstOf, isErrorOrRejection])
    exact (hload.trans (hdraws _)).trans (emits_finishInit (seededSlot n _) n)

/-- Every operation but STEP and RESET adds events that are no burst, with at most one error among them. -/
theorem effect_emits {i : Instr} {s t : State} (h : Effect i s t) (hs : i ≠ .step) (hr : i ≠ .reset) :
    Emits 1 s t := by
  cases h with
  | refuse r => exact Emits.weaken (.of_same (by simp))
  | init n => exact Emits.weaken (emits_initSlot s n)
  | consume n => exact (emits_consumeBody s n).trans (.emit _ _ rfl rfl)
  | configNothing n => exact (Emits.raise s _).trans (.emit _ _ rfl rfl)
  | configFields n a c => exact emits_configFields s n a c
  | enqueue n ctl maxrep =>
    obtain ⟨_, _, htrace⟩ := State.enqueue_consumes s ctl n maxrep
    exact ((emits_consumeBody s n).trans (.of_same htrace)).trans (.emit _ _ rfl rfl)
  | ignored n sub => exact (Emits.raise s _).trans (.emit _ _ rfl rfl)
  | answer v => exact Emits.weaken (.emit _ _ rfl rfl)
  | wakeExpire => exact Emits.weaken (.of_same (by simp))
  | wakeDisabled => exact Emits.weaken (.of_same rfl)
  | step => exact absurd rfl hs
  | stepDisabled => exact absurd rfl hs
  | reset => exact absurd rfl hr

/-- STEP adds one event or none: the cancellation's error, the wakeup where one is needed, or a frame. -/
theorem schedulerStep_trace (s : State) (abbreviated : Bool) :
    (s.schedulerStep abbreviated).trace = s.trace ∨
    (∃ e, (s.schedulerStep abbreviated).trace = s.trace ++ [.log (.error e)]) ∨
    (s.needsWakeup = true ∧
      (s.schedulerStep abbreviated).trace = s.trace ++ [.tx .wakeup wakeF s.txReply]) ∨
    ∃ segs, (s.schedulerStep abbreviated).trace = s.trace ++ [.tx .frame segs s.txReply] := by
  rcases State.schedulerStep_cases s abbreviated with
    ⟨_, e⟩ | ⟨_, _, e⟩ | ⟨_, _, hn, e⟩ | ⟨c, rest, _, _, _, e⟩ <;> rw [e]
  · exact .inl (by simp)
  · exact .inr (.inl ⟨_, State.cancelBatch_trace (s.withPend none)⟩)
  · exact .inr (.inr (.inl ⟨hn, (State.wakeStep_fields s).1⟩))
  · exact .inr (.inr (.inr ⟨_, (State.frameStep_fields s abbreviated c rest).1⟩))

/-- Settles O55. -/
theorem atMostOneErrorPerOperation : Obligations.AtMostOneErrorPerOperation := by
  intro i s t hi h
  have he := exec_effect h
  by_cases hstep : i = .step
  · subst hstep
    cases he with
    | step abbreviated _ =>
      rcases schedulerStep_trace s abbreviated with ht | ⟨e, ht⟩ | ⟨_, ht⟩ | ⟨segs, ht⟩
      · exact ⟨[], by simpa using ht, by simp⟩
      · exact ⟨_, ht, List.length_filter_le _ _⟩
      · exact ⟨_, ht, List.length_filter_le _ _⟩
      · exact ⟨_, ht, List.length_filter_le _ _⟩
    | stepDisabled => exact ⟨[], by simp, by simp⟩
    | _ => contradiction
  · obtain ⟨new, ht, _, herr⟩ := effect_emits he hstep hi
    exact ⟨new, ht, herr⟩

/-! ### The cooldown -/

/-- What a CONFIG_CHANNEL word decodes to is presented as a host word (R95). -/
theorem encode_of_decodeConfig {w : HostWord} {i : Instr} (h : decodeConfig w = .instr i) :
    ∃ w', encode i = .word w' := by
  unfold decodeConfig at h
  split at h
  case h_4 => cases h; exact ⟨_, rfl⟩
  case h_5 => cases h
  all_goals obtain ⟨_, rfl⟩ := Laws.requireField_instr h; exact ⟨_, rfl⟩

/-- What a BUILD_WAVEFORM word decodes to is presented as a host word (R91). -/
theorem encode_of_decodeWave {w : HostWord} {i : Instr} (h : decodeWave w = .instr i) :
    ∃ w', encode i = .word w' := by
  unfold decodeWave at h
  split at h <;> cases h <;> exact ⟨_, rfl⟩

/-- What a host word decodes to is presented as a host word: it is no event (R97, R100). -/
theorem encode_of_decodeWord {w : HostWord} {i : Instr} (h : decodeWord w = .instr i) :
    ∃ w', encode i = .word w' := by
  unfold decodeWord at h
  split at h
  case h_4 => exact encode_of_decodeConfig h
  case h_5 =>
    obtain ⟨_, rfl⟩ := Laws.requireField_instr h
    exact ⟨_, Laws.encode_controlOf _ _⟩
  case h_8 => exact encode_of_decodeWave h
  case h_2 | h_3 | h_6 | h_7 => obtain ⟨_, rfl⟩ := Laws.requireField_instr h; exact ⟨_, rfl⟩
  all_goals cases h; exact ⟨_, rfl⟩

/-- Only the event RESET decodes to RESET: no host word and no frame byte does (R97, R100). -/
theorem decode_reset {x : Input} (h : decode x = .instr .reset) : x = .reset := by
  cases x with
  | word w =>
    obtain ⟨_, e⟩ := encode_of_decodeWord h
    cases e
  | frameByte b =>
    simp only [decode, decodeFrameByte] at h
    split at h <;> cases h
  | step => cases h
  | wakeExpire => cases h
  | reset => rfl

/-- The wakeup bursts put on the air, in order. -/
def acceptedWakeups (t : List Event) : List (BurstKind × Bool) :=
  (acceptedBursts t).filter fun b => b.1 == .wakeup

theorem acceptedWakeups_append (a b : List Event) :
    acceptedWakeups (a ++ b) = acceptedWakeups a ++ acceptedWakeups b := by
  simp [acceptedWakeups, acceptedBursts, bursts]

/-- Events without a burst put no wakeup on the air. -/
theorem Emits.acceptedWakeups_eq {n : Nat} {s t : State} (h : Emits n s t) :
    acceptedWakeups t.trace = acceptedWakeups s.trace := by
  obtain ⟨new, ht, hb, _⟩ := h
  have hnew : acceptedWakeups new = [] := by simp [acceptedWakeups, acceptedBursts, hb]
  rw [ht, acceptedWakeups_append, hnew, List.append_nil]

/-- The cooldown timer runs to `due`, and no wakeup is needed before it (R42). -/
def Cooling (due : Nat) (s : State) : Prop := s.wt = some due ∧ s.needsWakeup = false

/-- Before the timer is due, every operation but RESET lets it run on (R242, R243, R250). -/
theorem effect_cooling {i : Instr} {s t : State} {due : Nat} (h : Effect i s t) (hi : i ≠ .reset)
    (hc : Cooling due s) (hnow : s.now < due) : Cooling due t := by
  obtain ⟨hwt, hn⟩ := hc
  rcases effect_scheduler h with
    ⟨_, hn', _, _, _, hwt'⟩ | ⟨n, ctl, maxrep, _, _, _, rfl⟩ | ⟨abbreviated, _, _, rfl⟩ | ⟨_, he, _⟩ | ⟨hr, _⟩
  · exact ⟨hwt'.trans hwt, hn'.trans hn⟩
  · simp [Cooling, hwt, hn]
  · rcases State.schedulerStep_cases s abbreviated with
      ⟨_, e⟩ | ⟨_, _, e⟩ | ⟨_, _, hw, _⟩ | ⟨c, rest, _, _, _, e⟩
    · simp [Cooling, e, hwt, hn]
    · simp [Cooling, e, hwt, hn]
    · exact absurd hw (by simp [hn])
    · simp [Cooling, e, hwt, hn]
  · obtain ⟨due', hdue, hle⟩ := wakeEnabled_iff.1 he
    cases hwt.symm.trans hdue
    exact absurd hnow (Nat.not_lt.2 hle)
  · exact absurd hr hi

/-- Where no wakeup is needed, an operation but RESET puts none on the air (R240, R243). -/
theorem effect_acceptedWakeups {i : Instr} {s t : State} (h : Effect i s t) (hi : i ≠ .reset)
    (hn : s.needsWakeup = false) : acceptedWakeups t.trace = acceptedWakeups s.trace := by
  by_cases hstep : i = .step
  · subst hstep
    cases h with
    | step abbreviated _ =>
      rcases schedulerStep_trace s abbreviated with ht | ⟨e, ht⟩ | ⟨hw, _⟩ | ⟨segs, ht⟩
      · rw [ht]
      · rw [ht, acceptedWakeups_append]
        simp [acceptedWakeups, acceptedBursts, bursts, burstOf]
      · exact absurd hw (by simp [hn])
      · rw [ht, acceptedWakeups_append]
        cases s.txReply <;> simp [acceptedWakeups, acceptedBursts, bursts, burstOf]
    | stepDisabled => rfl
    | _ => contradiction
  · exact (effect_emits h hstep hi).acceptedWakeups_eq

/-- One presented transition but RESET: it is used up, time does not run back, and before the timer is due it
runs on and no wakeup is put on the air. -/
theorem step_presented_cooling {s t : State} {turn : Turn} {rest : List Turn} (h : step s = .next t)
    (hturns : s.env.turns = turn :: rest) (hturn : turn ≠ .input .reset) :
    t.env.turns = rest ∧ s.now ≤ t.now ∧ ∀ due, Cooling due s → t.now < due →
      Cooling due t ∧ acceptedWakeups t.trace = acceptedWakeups s.trace := by
  obtain ⟨hnext, hpop⟩ := State.popTurn_cons s hturns
  have hrest : s.popTurn.env.turns = rest := by simp [hpop]
  have hcool : ∀ due, Cooling due s → Cooling due s.popTurn := fun due hc => by simpa [Cooling] using hc
  rcases step_cases h with ⟨d, _, rfl⟩ | ⟨w, r, _, rfl⟩ | ⟨x, i, hx, hd, he⟩
  · exact ⟨by simp [hrest], by simp, fun due hc _ => ⟨by simpa [Cooling] using hc, by simp⟩⟩
  · exact ⟨by simp [hrest], by simp, fun due hc _ => ⟨by simpa [Cooling] using hc, by simp⟩⟩
  · have hi : i ≠ .reset := by
      rintro rfl
      exact hturn (by rw [← hnext, hx, decode_reset hd])
    have hnow := effect_now he hi
    refine ⟨by rw [effect_turns he, hrest], by simp [hnow], fun due hc hlt => ?_⟩
    have hc' := hcool due hc
    exact ⟨effect_cooling he hi hc' (hnow ▸ hlt), by simpa using effect_acceptedWakeups he hi hc'.2⟩

/-- A run of one step more is a step and the run after it. -/
theorem run_succ_inv {k : Nat} {s t : State} (h : core.run (k + 1) s = .next t) :
    ∃ s', step s = .next s' ∧ core.run k s' = .next t := by
  cases hs : step s with
  | next s' => exact ⟨s', rfl, by rwa [run_succ hs] at h⟩
  | fault r => cases r
  | refused r =>
    simp only [Host.Core.run] at h
    rw [show core.step s = step s from rfl, hs] at h
    cases h

/-- Over a run of presented transitions without a RESET time does not run back, and while the cooldown timer runs
no wakeup is put on the air (R255(e)). -/
theorem run_cooling {k : Nat} {s t : State} (hk : k ≤ s.env.turns.length)
    (hreset : .input .reset ∉ s.env.turns) (h : core.run k s = .next t) :
    s.now ≤ t.now ∧ ∀ due, Cooling due s → t.now < due →
      acceptedWakeups t.trace = acceptedWakeups s.trace := by
  induction k generalizing s with
  | zero =>
    cases h
    exact ⟨Nat.le_refl _, fun _ _ _ => rfl⟩
  | succ k ih =>
    obtain ⟨s', hs, hrun⟩ := run_succ_inv h
    obtain ⟨turn, rest, hturns⟩ := List.exists_cons_of_length_pos (Nat.zero_lt_of_lt hk)
    rw [hturns] at hk hreset
    rw [List.mem_cons, not_or] at hreset
    obtain ⟨hturn, hreset'⟩ := hreset
    obtain ⟨hrest, hle, hcool⟩ := step_presented_cooling hs hturns (Ne.symm hturn)
    obtain ⟨hle', hrun'⟩ := ih (by rw [hrest]; exact Nat.le_of_succ_le_succ hk) (by rwa [hrest]) hrun
    refine ⟨hle.trans hle', fun due hc hlt => ?_⟩
    obtain ⟨hc', hw⟩ := hcool due hc (Nat.lt_of_le_of_lt hle' hlt)
    exact (hrun' due hc' hlt).trans hw

/-- Settles O41, by induction on the number of transitions, with the timer's due time kept along the run. -/
theorem noWakeupDuringCooldown : Obligations.NoWakeupDuringCooldown := by
  intro k s t due hinv hwt hk hreset hrun hlt
  obtain ⟨_, _, _, _, ⟨hawake, _⟩, _⟩ := hinv
  exact (run_cooling hk hreset hrun).2 due ⟨hwt, hawake (by simp [hwt])⟩ hlt

/-! ### The reset state -/

/-- Settles O42. -/
theorem resetWritesResetValues : Obligations.ResetWritesResetValues := by
  intro s
  refine ⟨s.resetBlock, rfl, ?_⟩
  have hready : ∀ c ∈ s.resetBlock.ch, c.ready = false := by simp [State.resetBlock, freshSlots]
  simpa [AtReset] using hready

/-- The block meets its invariant right after reset, with any valid parameters. -/
theorem inv_boot {p : Params} (h : p.ok = true) : Inv (State.boot p) := by
  refine ⟨⟨h, ?_⟩, ⟨?_, ?_⟩, ⟨?_, ?_⟩, ?_, ⟨?_, ?_⟩, Memory.boot_wf p, rfl⟩ <;> simp [State.boot]

/-- Settles O43. -/
theorem resetStateMeetsInvariants : Obligations.ResetStateMeetsInvariants := by
  refine ⟨?_, rfl, rfl, inv_boot Config.params.ok, ?_, ?_, ?_⟩
  · simp [AtReset, State.reset, State.boot, ChanSlot.blank]
  · simp [WakeupFirst, State.reset, State.boot, acceptedBursts, bursts]
  · simp [AbbrevFollowsWakeup, State.reset, State.boot, lastBurst, bursts]
  · simp [FramesFollowWakeups, State.reset, State.boot]

end Sys2Proof.Machine

/-! PROOFS. The storage and the operations that reach it (20_memory.md): the layout of the persisted record, the
STORE port, which records an operation can write, INIT from a record, and what a step performs. -/

namespace Sys2Proof.Machine

/-! ### The persisted record (R61) -/

/-- The byte of a bit vector that starts at a bit, as arithmetic. -/
theorem extractByte_toNat {w : Nat} (x : BitVec w) (start : Nat) :
    (x.extractLsb' start 8).toNat = x.toNat / 2 ^ start % 256 := by
  rw [BitVec.extractLsb'_toNat, Nat.shiftRight_eq_div_pow]

/-- OR'ing a field in above a value that ends below it adds the shifted field, where the field fits. -/
theorem or_shiftLeft_toNat {w k : Nat} {x y : BitVec w} (hx : x.toNat < 2 ^ k)
    (hy : 2 ^ k * y.toNat < 2 ^ w) : (x ||| y <<< k).toNat = x.toNat + 2 ^ k * y.toNat := by
  rw [BitVec.toNat_or, BitVec.toNat_shiftLeft, Nat.shiftLeft_eq, Nat.mul_comm, Nat.mod_eq_of_lt hy,
    Nat.or_comm, ← Nat.two_pow_add_eq_or_of_lt hx, Nat.add_comm]

/-- The channel id of a record is its first four bytes, little-endian. -/
theorem cidOf_toNat (b0 b1 b2 b3 b4 b5 : Byte) :
    (cidOf [b0, b1, b2, b3, b4, b5]).toNat =
      b0.toNat + 256 * b1.toNat + 256 ^ 2 * b2.toNat + 256 ^ 3 * b3.toNat := by
  have h0 := b0.isLt; have h1 := b1.isLt; have h2 := b2.isLt; have h3 := b3.isLt
  have hw : ∀ b : Byte, (b.setWidth 32).toNat = b.toNat := fun b => BitVec.toNat_setWidth_of_le (by decide)
  have e1 : (b0.setWidth 32 ||| b1.setWidth 32 <<< 8).toNat = b0.toNat + 2 ^ 8 * b1.toNat := by
    rw [or_shiftLeft_toNat] <;> simp only [hw] <;> omega
  have e2 : (b0.setWidth 32 ||| b1.setWidth 32 <<< 8 ||| b2.setWidth 32 <<< 16).toNat =
      b0.toNat + 2 ^ 8 * b1.toNat + 2 ^ 16 * b2.toNat := by
    rw [or_shiftLeft_toNat] <;> simp only [hw, e1] <;> omega
  show (b0.setWidth 32 ||| b1.setWidth 32 <<< 8 ||| b2.setWidth 32 <<< 16 |||
    b3.setWidth 32 <<< 24).toNat = _
  rw [or_shiftLeft_toNat] <;> simp only [hw, e2] <;> omega

/-- The stored code of a record is its last two bytes, little-endian. -/
theorem codeOf_toNat (b0 b1 b2 b3 b4 b5 : Byte) :
    (codeOf [b0, b1, b2, b3, b4, b5]).toNat = b4.toNat + 256 * b5.toNat := by
  have h4 := b4.isLt; have h5 := b5.isLt
  have hw : ∀ b : Byte, (b.setWidth 16).toNat = b.toNat := fun b => BitVec.toNat_setWidth_of_le (by decide)
  show (b4.setWidth 16 ||| b5.setWidth 16 <<< 8).toNat = _
  rw [or_shiftLeft_toNat] <;> simp only [hw] <;> omega

/-- The first four bytes of a record are those of the channel id, the lowest first. -/
theorem recordOf_cid_byte (cid : Cid) (code : Code) {i : Nat} (hi : i < 4) :
    ((recordOf cid code).getD i 0).toNat = cid.toNat / 256 ^ i % 256 := by
  match i, hi with
  | 0, _ => exact extractByte_toNat cid 0
  | 1, _ => exact extractByte_toNat cid 8
  | 2, _ => exact extractByte_toNat cid 16
  | 3, _ => exact extractByte_toNat cid 24

/-- Settles O59. -/
theorem persistedRecordLayout : Obligations.PersistedRecordLayout := by
  refine ⟨fun cid code => ⟨rfl, fun i hi => recordOf_cid_byte cid code hi, ?_, ?_⟩,
    fun b0 b1 b2 b3 b4 b5 => ⟨cidOf_toNat .., codeOf_toNat ..⟩⟩
  · exact (extractByte_toNat code 0).trans (by simp)
  · have hlt : code.toNat / 2 ^ 8 < 256 := by have := code.isLt; omega
    exact (extractByte_toNat code 8).trans (Nat.mod_eq_of_lt hlt)

/-! ### The STORE port (R62, R63, R64) -/

/-- After a save the record at its key is the saved one where it succeeded; every other record is as it was. -/
theorem read_storeAfter (s : State) (key : Nat) (r : List Byte) (ok : Bool) (k : Nat) :
    Memory.read (s.storeAfter key r ok) k =
      if ok = true ∧ k = key then some r else Memory.read s.store k := by
  cases ok with
  | false => simp [State.storeAfter]
  | true =>
    by_cases hk : k = key
    · simp [State.storeAfter, hk]
    · simp [State.storeAfter, hk, Memory.read_write_other s.store key k r hk]

/-- With P_STORE_COHERENT a load answers the record the store holds (R64). -/
theorem memReadResult_of_coherent {s : State} (key : Nat) (h : s.cfg.storeCoherent = true) :
    s.memReadResult key = Memory.read s.store key := by
  simp [State.memReadResult, h]

/-- Without it a load answers the first of the environment's listed answers and uses it up (R62). -/
theorem memRead_of_cons {s : State} {a : Option (List Byte)} {rest : List (Option (List Byte))} (key : Nat)
    (hc : s.cfg.storeCoherent = false) (h : s.env.loads = a :: rest) :
    s.memReadResult key = a ∧ (s.memRead key).env.loads = rest := by
  simp [State.memReadResult, State.memRead, State.loadReply, State.popLoad, hc, h]

/-- A save answers the first of the environment's listed answers and uses it up (R63). -/
theorem memWrite_of_cons {s : State} {ok : Bool} {rest : List Bool} (key : Nat) (r : List Byte)
    (h : s.env.saves = ok :: rest) : s.saveReply = ok ∧ (s.memWrite key r).env.saves = rest := by
  simp [State.saveReply, State.memWrite, State.popSave, h]

/-- Settles O60. -/
theorem storePortAnswers : Obligations.StorePortAnswers := by
  intro s key
  refine ⟨State.memRead_trace s key, by simp, memReadResult_of_coherent key,
    fun a rest hc h => memRead_of_cons key hc h, fun ok rest r h => ?_⟩
  obtain ⟨hreply, hsaves⟩ := memWrite_of_cons key r h
  refine ⟨hreply, hsaves, ?_, fun k => ?_⟩
  · rw [State.memWrite_trace, hreply]
  · rw [State.memWrite_store, hreply, read_storeAfter]

/-! ### The records an operation can write (R60, R69) -/

/-- A slot's key depends on the parameters alone. -/
theorem keyOf_congr {s t : State} (h : t.cfg = s.cfg) (n : SlotIx) : t.keyOf n = s.keyOf n := by
  simp [State.keyOf, h]

/-- Saving a slot leaves the record at every other key. -/
theorem persistSlot_read_other (s : State) {n : SlotIx} {k : Nat} (h : k ≠ s.keyOf n) :
    Memory.read (s.persistSlot n).store k = Memory.read s.store k := by
  simp [State.persistSlot_store, read_storeAfter, h]

/-- CONSUME saves at its own slot's key. -/
theorem consumeBody_read_other (s : State) {n : SlotIx} {k : Nat} (h : k ≠ s.keyOf n) :
    Memory.read (s.consumeBody n).store k = Memory.read s.store k := by
  rw [← keyOf_congr (t := s.setCode n (consumeF (s.slot n).code).2) (by simp) n] at h
  rw [State.consumeBody, persistSlot_read_other _ h]
  simp

/-- CONFIG_CHANNEL saves at its own slot's key. -/
theorem configFields_read_other (s : State) {n : SlotIx} (a : Option Cid) (c : Option Code) {k : Nat}
    (h : k ≠ s.keyOf n) : Memory.read (s.configFields n a c).store k = Memory.read s.store k := by
  rw [← keyOf_congr (t := (s.applyCid n a).applyCode n c) (by simp) n] at h
  calc Memory.read (s.configFields n a c).store k
      = Memory.read (((s.applyCid n a).applyCode n c).persistSlot n).store k := by simp [State.configFields]
    _ = Memory.read s.store k := by rw [persistSlot_read_other _ h]; simp

/-- Every operation leaves the record at a key that is not its own slot's. -/
theorem effect_read_other {i : Instr} {s t : State} (h : Effect i s t) {k : Nat}
    (hk : ∀ n, i.slot? = some n → k ≠ s.keyOf n) : Memory.read t.store k = Memory.read s.store k := by
  cases h with
  | consume n => simpa using consumeBody_read_other s (hk n rfl)
  | configFields n a c hn => exact configFields_read_other s a c (hk n hn)
  | enqueue n ctl maxrep hn =>
    obtain ⟨_, hstore, _⟩ := State.enqueue_consumes s ctl n maxrep
    simpa [hstore] using consumeBody_read_other s (hk n hn)
  | step abbreviated _ =>
    obtain ⟨_, _, _, _, _, hstore⟩ := State.schedulerStep_frame s abbreviated
    rw [hstore]
  | _ => simp

/-- INIT and CONFIG_CHANNEL with neither field do not touch the store (R130, R276). -/
theorem effect_store_of_init_or_configNone {i : Instr} {s t : State} {n : SlotIx} (h : Effect i s t)
    (hi : i = .init n ∨ i = .configNone n) : t.store = s.store := by
  have hslot : i.slot? = some n := by rcases hi with rfl | rfl <;> rfl
  have hother : ∀ m, i.slot? = some m → i ≠ .init m → i ≠ .configNone m → False := by
    intro m hm hinit hnone
    cases hslot.symm.trans hm
    exact hi.elim hinit hnone
  cases h with
  | consume m => exact absurd hi (by simp)
  | configFields m a c hm hinit hnone => exact (hother m hm hinit hnone).elim
  | enqueue m ctl maxrep hm hinit hnone => exact (hother m hm hinit hnone).elim
  | step => exact absurd hi (by simp)
  | _ => simp

/-- Settles O58. -/
theorem storeWrittenOnlyAtOwnKey : Obligations.StoreWrittenOnlyAtOwnKey := by
  intro i s t h
  have he := exec_effect h
  refine ⟨fun k hk => effect_read_other he hk, fun n hi k => ?_⟩
  rw [effect_store_of_init_or_configNone he hi]

/-! ### INIT from a record (R130) -/

/-- A load that answers a record of six bytes did not fail (R62). -/
theorem loadedRecord_eq_some {s : State} {key : Nat} {r : List Byte} (h : s.memReadResult key = some r)
    (hr : r.length = 6) : s.loadedRecord key = some r := by
  simp [State.loadedRecord, h, hr]

/-- Writing the channel id and the stored code of a slot in the file gives it both. -/
theorem setCid_setCode_slot_same (s : State) {n : SlotIx} (a : Cid) (c : Code) (h : n.toNat < s.ch.length) :
    ((s.setCid n a).setCode n c).slot n = { s.slot n with cid := a, code := c } := by
  rw [State.setCode_slot_same _ n c (by simpa using h), State.setCid_slot_same s n a h]

/-- INIT from a record: the slot is ready with the record's channel id and stored code. -/
theorem initLoaded_slot_same (s : State) {n : SlotIx} (r : List Byte) (h : n.toNat < s.ch.length) :
    (s.initLoaded n r).slot n = { ready := true, cid := cidOf r, code := codeOf r } := by
  rw [State.initLoaded, finishInit_slot_same _ n (by simpa using h), setCid_setCode_slot_same s _ _ h]

/-- INIT from a record logs the slot's values with the next code, and answers them. -/
theorem initLoaded_trace (s : State) {n : SlotIx} (r : List Byte) (h : n.toNat < s.ch.length) :
    (s.initLoaded n r).trace = s.trace ++ [.log (.initState n (cidOf r) (nextCode (codeOf r))),
      .resp (.channel (cidOf r) (codeOf r))] := by
  rw [State.initLoaded, finishInit_trace, setCid_setCode_slot_same s _ _ h]
  simp

/-- Settles O10. -/
theorem initLoadsRecord : Obligations.InitLoadsRecord := by
  intro s n b0 b1 b2 b3 b4 b5 hslots hn hr hload
  obtain ⟨_, hlen⟩ := hslots
  have hinit : s.initSlot n = (s.memRead (s.keyOf n)).initLoaded n [b0, b1, b2, b3, b4, b5] := by
    simp [State.initSlot, loadedRecord_eq_some hload rfl]
  have hfile : n.toNat < (s.memRead (s.keyOf n)).ch.length := by simpa [hlen] using hn
  refine ⟨_, _, s.initSlot n, exec_init hn hr, cidOf_toNat b0 b1 b2 b3 b4 b5,
    codeOf_toNat b0 b1 b2 b3 b4 b5, ?_, ?_, ⟨by simp, fun m hm => initSlot_slot_other s n m hm⟩,
    fun k => by simp, by simp [SameMarks], by simp [SameScheduler]⟩
  · rw [hinit, initLoaded_slot_same _ _ hfile]
  · rw [hinit, initLoaded_trace _ _ hfile]
    simp [hload, nextCode]

/-! ### What a step performs (R70, R90, R97) -/

/-- What decodes to an instruction is performed as that instruction. -/
theorem runInput_of_decode {x : Input} {i : Instr} (h : decode x = .instr i) (s : State) :
    runInput x s = exec i s := by
  simp only [runInput, h]

/-- Settles O6. -/
theorem stepRunsDecodedOperation : Obligations.StepRunsDecodedOperation := by
  intro s x i hnext hd
  rw [step, hnext]
  exact runInput_of_decode hd s.popTurn

/-- Settles O45: none of the four rows' meanings answers a state. -/
theorem frameBytesAreNoOperation : Obligations.FrameBytesAreNoOperation := by
  intro s chk i hi
  simp only [List.mem_cons, List.not_mem_nil, or_false] at hi
  rcases hi with rfl | rfl | rfl | rfl <;> rfl

end Sys2Proof.Machine

/-! PROOFS. The encoding (30_encoding.md): decoder and encoder, the words the decoder rejects, the slot operand, the
control nibble of a frame, the raw segment list and its canonical form, and the one response of a host operation. -/

namespace Sys2Proof.Machine

open Laws

/-! ### What a word put together from its fields decodes to (R91, R97) -/

/-- A CONTROL word decodes to its request's operation, whatever the request (R94). -/
theorem decode_control (n : SlotIx) (sub : Nibble) :
    decode (.word (hostWord 0 0 n sub 0x4)) = .instr (controlOf sub n) := by
  simp [decode, decodeWord_op4, fields_hostWord, requireField]

/-- Byte 1 of a frame is its control nibble above its checksum nibble (R101). -/
theorem nibbles_append (ctl chk : Nibble) :
    (ctl ++ chk : Byte).extractLsb' 4 4 = ctl ∧ (ctl ++ chk : Byte).extractLsb' 0 4 = chk := by
  revert ctl chk
  decide

/-- Settles O1: each row is encoded from the fields its decoder reads back. -/
theorem decodeOfEncode : Obligations.DecodeOfEncode := by
  intro i
  cases i with
  | init n => simp [decode, encode, decodeWord_op1, fields_hostWord, requireField]
  | consume n => simp [decode, encode, decodeWord_op2, fields_hostWord, requireField]
  | configNone n => simp [decode, encode, decodeWord_op3, decodeConfig, fields_hostWord, requireField]
  | configId n a => simp [decode, encode, decodeWord_op3, decodeConfig, fields_hostWord, requireField]
  | configCode n c => simp [decode, encode, decodeWord_op3, decodeConfig, fields_hostWord, requireField]
  | configIdCode n a c => simp [decode, encode, decodeWord_op3, decodeConfig, fields_hostWord]
  | controlStop n => exact decode_control n 0x1
  | controlOpen n => exact decode_control n 0x2
  | controlClose n => exact decode_control n 0x4
  | controlInvalid0 n => exact decode_control n 0x0
  | controlInvalid3 n => exact decode_control n 0x3
  | controlInvalid5 n => exact decode_control n 0x5
  | controlInvalid6 n => exact decode_control n 0x6
  | controlInvalid7 n => exact decode_control n 0x7
  | controlInvalid8 n => exact decode_control n 0x8
  | controlInvalid9 n => exact decode_control n 0x9
  | controlInvalidA n => exact decode_control n 0xA
  | controlInvalidB n => exact decode_control n 0xB
  | controlInvalidC n => exact decode_control n 0xC
  | controlInvalidD n => exact decode_control n 0xD
  | controlInvalidE n => exact decode_control n 0xE
  | controlInvalidF n => exact decode_control n 0xF
  | program n => simp [decode, encode, decodeWord_op5, fields_hostWord, requireField]
  | encode ctl cid code => simp [decode, encode, decodeWord_op6, fields_hostWord, requireField]
  | waveFull o => simp [decode, encode, decodeWord_op7, decodeWave, fields_waveWord]
  | waveAbbr o => simp [decode, encode, decodeWord_op7, decodeWave, fields_waveWord]
  | reservedOp0 rest => simp [decode, encode, decodeWord_op0, fields_reservedWord]
  | reservedOp8 rest => simp [decode, encode, decodeWord_op8, fields_reservedWord]
  | reservedOp9 rest => simp [decode, encode, decodeWord_op9, fields_reservedWord]
  | reservedOpA rest => simp [decode, encode, decodeWord_opA, fields_reservedWord]
  | reservedOpB rest => simp [decode, encode, decodeWord_opB, fields_reservedWord]
  | reservedOpC rest => simp [decode, encode, decodeWord_opC, fields_reservedWord]
  | reservedOpD rest => simp [decode, encode, decodeWord_opD, fields_reservedWord]
  | reservedOpE rest => simp [decode, encode, decodeWord_opE, fields_reservedWord]
  | reservedOpF rest => simp [decode, encode, decodeWord_opF, fields_reservedWord]
  | frameCtlStop chk => simp [decode, encode, decodeFrameByte, nibbles_append]
  | frameCtlOpen chk => simp [decode, encode, decodeFrameByte, nibbles_append]
  | frameCtlClose chk => simp [decode, encode, decodeFrameByte, nibbles_append]
  | frameCtlProgram chk => simp [decode, encode, decodeFrameByte, nibbles_append]
  | step => rfl
  | wakeExpire => rfl
  | reset => rfl

/-- A word is put together from what its fields are known to be (R91). -/
theorem hostWord_eq {w : HostWord} {a : Cid} {c : Code} {n : SlotIx} {sub op : Nibble} (hcid : cidField w = a)
    (hcode : codeField w = c) (hch : chField w = n) (hsub : subField w = sub) (hop : opField w = op) :
    hostWord a c n sub op = w := by
  rw [← hcid, ← hcode, ← hch, ← hsub, ← hop, hostWord_fields]

theorem waveWord_eq {w : HostWord} {sub op : Nibble} (hsub : subField w = sub) (hop : opField w = op) :
    waveWord (frameField w) sub op = w := by
  rw [← hsub, ← hop, waveWord_fields]

theorem reservedWord_eq {w : HostWord} {op : Nibble} (hop : opField w = op) :
    reservedWord (restField w) op = w := by
  rw [← hop, reservedWord_fields]

/-- INIT, CONSUME and SEND_PROGRAM are decoded only from a word with nothing but its `OP` and `CH` (R97). -/
theorem slotWord_of_requireField {w : HostWord} {op : Nibble} {i j : Instr} (hop : opField w = op)
    (h : requireField (subField w == 0 && codeField w == 0 && cidField w == 0) i = .instr j) :
    i = j ∧ hostWord 0 0 (chField w) 0 op = w := by
  obtain ⟨hzero, hij⟩ := requireField_instr h
  simp only [Bool.and_eq_true, beq_iff_eq] at hzero
  obtain ⟨⟨hsub, hcode⟩, hcid⟩ := hzero
  exact ⟨hij, hostWord_eq hcid hcode rfl hsub hop⟩

/-- A CONFIG_CHANNEL operation was decoded from its own word: a field that is not present is zero (R95, R97). -/
theorem encode_eq_of_decodeConfig {w : HostWord} {i : Instr} (hop : opField w = 0x3)
    (h : decodeConfig w = .instr i) : encode i = .word w := by
  unfold decodeConfig at h
  split at h
  case h_1 hsub =>
    obtain ⟨hzero, rfl⟩ := requireField_instr h
    obtain ⟨hcid, hcode⟩ : cidField w = 0 ∧ codeField w = 0 := by simpa using hzero
    exact congrArg Input.word (hostWord_eq hcid hcode rfl hsub hop)
  case h_2 hsub =>
    obtain ⟨hcode, rfl⟩ := requireField_instr h
    exact congrArg Input.word (hostWord_eq rfl (beq_iff_eq.1 hcode) rfl hsub hop)
  case h_3 hsub =>
    obtain ⟨hcid, rfl⟩ := requireField_instr h
    exact congrArg Input.word (hostWord_eq (beq_iff_eq.1 hcid) rfl rfl hsub hop)
  case h_4 hsub =>
    cases h
    exact congrArg Input.word (hostWord_eq rfl rfl rfl hsub hop)
  case h_5 => cases h

/-- A BUILD_WAVEFORM operation was decoded from its own word (R91). -/
theorem encode_eq_of_decodeWave {w : HostWord} {i : Instr} (hop : opField w = 0x7)
    (h : decodeWave w = .instr i) : encode i = .word w := by
  unfold decodeWave at h
  split at h
  case h_1 hsub => cases h; exact congrArg Input.word (waveWord_eq hsub hop)
  case h_2 hsub => cases h; exact congrArg Input.word (waveWord_eq hsub hop)
  case h_3 => cases h

/-- A host operation was decoded from its own word: no bit of the word is ignored (R97). -/
theorem encode_eq_of_decodeWord {w : HostWord} {i : Instr} (h : decodeWord w = .instr i) :
    encode i = .word w := by
  rcases nibble_cases (opField w) with hop | hop | hop | hop | hop | hop | hop | hop | hop | hop | hop | hop |
    hop | hop | hop | hop
  · simp only [decodeWord, hop] at h
    cases h
    exact congrArg Input.word (reservedWord_eq hop)
  · obtain ⟨rfl, hw⟩ := slotWord_of_requireField hop ((decodeWord_op1 w hop).symm.trans h)
    exact congrArg Input.word hw
  · obtain ⟨rfl, hw⟩ := slotWord_of_requireField hop ((decodeWord_op2 w hop).symm.trans h)
    exact congrArg Input.word hw
  · exact encode_eq_of_decodeConfig hop ((decodeWord_op3 w hop).symm.trans h)
  · obtain ⟨hzero, rfl⟩ := requireField_instr ((decodeWord_op4 w hop).symm.trans h)
    obtain ⟨hcode, hcid⟩ : codeField w = 0 ∧ cidField w = 0 := by simpa using hzero
    exact (encode_controlOf _ _).trans (congrArg Input.word (hostWord_eq hcid hcode rfl rfl hop))
  · obtain ⟨rfl, hw⟩ := slotWord_of_requireField hop ((decodeWord_op5 w hop).symm.trans h)
    exact congrArg Input.word hw
  · obtain ⟨hch, rfl⟩ := requireField_instr ((decodeWord_op6 w hop).symm.trans h)
    exact congrArg Input.word (hostWord_eq rfl rfl (beq_iff_eq.1 hch) rfl hop)
  · exact encode_eq_of_decodeWave hop ((decodeWord_op7 w hop).symm.trans h)
  all_goals
    simp only [decodeWord, hop] at h
    cases h
    exact congrArg Input.word (reservedWord_eq hop)

/-- A frame byte is put together from its nibbles. -/
theorem append_nibbles (b : Byte) : (b.extractLsb' 4 4 ++ b.extractLsb' 0 4 : Byte) = b := by
  revert b
  decide

/-- A frame control code was decoded from its own byte (R93, R101). -/
theorem encode_eq_of_decodeFrameByte {b : Byte} {i : Instr} (h : decodeFrameByte b = .instr i) :
    encode i = .frameByte b := by
  have hbyte {ctl : Nibble} (hctl : b.extractLsb' 4 4 = ctl) :
      Input.frameByte (ctl ++ b.extractLsb' 0 4) = .frameByte b := by
    rw [← hctl, append_nibbles]
  simp only [decodeFrameByte] at h
  split at h
  case h_1 hctl => cases h; exact hbyte hctl
  case h_2 hctl => cases h; exact hbyte hctl
  case h_3 hctl => cases h; exact hbyte hctl
  case h_4 hctl => cases h; exact hbyte hctl
  case h_5 => cases h

/-- Settles O2. -/
theorem encodeOfDecode : Obligations.EncodeOfDecode := by
  intro x i h
  cases x with
  | word w => exact encode_eq_of_decodeWord h
  | frameByte b => exact encode_eq_of_decodeFrameByte h
  | step => cases h; rfl
  | wakeExpire => cases h; rfl
  | reset => cases h; rfl

/-! ### The words the decoder rejects (R97, R98) -/

/-- A word with these fields fails a `require` of R97: the fields its operation does not use are not all zero. -/
def FailsRequire (op sub ch code cid : Nat) : Prop :=
  (op = 1 ∨ op = 2 ∨ op = 5) ∧ ¬ (sub = 0 ∧ code = 0 ∧ cid = 0) ∨
  op = 3 ∧ ¬ (sub < 4 ∧ (sub % 2 = 1 ∨ cid = 0) ∧ (sub / 2 % 2 = 1 ∨ code = 0)) ∨
  op = 4 ∧ ¬ (code = 0 ∧ cid = 0) ∨
  op = 6 ∧ ch ≠ 0 ∨
  op = 7 ∧ 2 ≤ sub

/-- A checked operation is rejected exactly where the check fails, and only as RESERVED_FIELD. -/
theorem requireField_reject_iff {c : Bool} {i : Instr} {e : DecodeError} :
    requireField c i = .reject e ↔ e = .refuse .reservedField ∧ c = false := by
  cases c <;> simp [requireField, eq_comm]

/-- A field is zero exactly where its number is. -/
theorem field_eq_zero_iff {k : Nat} {x : BitVec k} : x = 0 ↔ x.toNat = 0 := by
  rw [← BitVec.toNat_inj]
  simp

/-- CONFIG_CHANNEL: `SUB[3:2]` and each field without its presence flag must be zero (R95, R97). -/
theorem decodeConfig_reject_iff (w : HostWord) (e : DecodeError) :
    decodeConfig w = .reject e ↔ e = .refuse .reservedField ∧
      ¬ ((subField w).toNat < 4 ∧ ((subField w).toNat % 2 = 1 ∨ (cidField w).toNat = 0) ∧
        ((subField w).toNat / 2 % 2 = 1 ∨ (codeField w).toNat = 0)) := by
  rcases nibble_cases (subField w) with hsub | hsub | hsub | hsub | hsub | hsub | hsub | hsub | hsub | hsub | hsub |
    hsub | hsub | hsub | hsub | hsub <;>
    simp [decodeConfig, hsub, requireField_reject_iff, ← field_eq_zero_iff, imp_iff_not_or, eq_comm (a := e)]

/-- BUILD_WAVEFORM: `w[7:5]` must be zero (R91, R97). -/
theorem decodeWave_reject_iff (w : HostWord) (e : DecodeError) :
    decodeWave w = .reject e ↔ e = .refuse .reservedField ∧ 2 ≤ (subField w).toNat := by
  rcases nibble_cases (subField w) with hsub | hsub | hsub | hsub | hsub | hsub | hsub | hsub | hsub | hsub | hsub |
    hsub | hsub | hsub | hsub | hsub <;>
    simp [decodeWave, hsub, eq_comm (a := e)]

theorem decodeWord_reject_iff (w : HostWord) (e : DecodeError) :
    decodeWord w = .reject e ↔ e = .refuse .reservedField ∧
      FailsRequire (opField w).toNat (subField w).toNat (chField w).toNat (codeField w).toNat
        (cidField w).toNat := by
  rcases nibble_cases (opField w) with hop | hop | hop | hop | hop | hop | hop | hop | hop | hop | hop | hop |
    hop | hop | hop | hop <;>
    simp [decodeWord, hop, FailsRequire, requireField_reject_iff, decodeConfig_reject_iff, decodeWave_reject_iff,
      ← field_eq_zero_iff, imp_iff_not_or, or_assoc]

/-- The fields of a word are the numbers R91 takes from it. -/
theorem fields_toNat (w : HostWord) :
    (opField w).toNat = w.toNat % 16 ∧ (subField w).toNat = w.toNat / 2 ^ 4 % 16 ∧
      (chField w).toNat = w.toNat / 2 ^ 8 % 256 ∧ (codeField w).toNat = w.toNat / 2 ^ 16 % 65536 ∧
      (cidField w).toNat = w.toNat / 2 ^ 32 := by
  have hlt : w.toNat / 2 ^ 32 < 2 ^ 32 := by have := w.isLt; omega
  refine ⟨(field_toNat w 0 4).trans (by simp), field_toNat w 4 4, field_toNat w 8 8, field_toNat w 16 16,
    (field_toNat w 32 32).trans (Nat.mod_eq_of_lt hlt)⟩

/-- Settles O4. -/
theorem rejectedWordsAreThoseOfR97 : Obligations.RejectedWordsAreThoseOfR97 := by
  intro w op sub ch code cid
  obtain ⟨hop, hsub, hch, hcode, hcid⟩ := fields_toNat w
  have hreject (e : DecodeError) :
      decodeWord w = .reject e ↔ e = .refuse .reservedField ∧ FailsRequire op sub ch code cid := by
    rw [decodeWord_reject_iff, hop, hsub, hch, hcode, hcid]
  exact ⟨(hreject _).trans (and_iff_right rfl), fun e he => ((hreject e).1 he).1⟩

/-! ### What a step does with a word (R90, R97, R98) -/

/-- A decoder's answer is an operation exactly where it names it. -/
theorem instr?_eq_some_iff {d : Decoded} {i : Instr} : d.instr? = some i ↔ d = .instr i := by
  cases d <;> simp [Decoded.instr?]

/-- A rejected word is refused with its reason (R98). -/
theorem runInput_of_refuse {x : Input} {r : RefuseReason} (h : decode x = .reject (.refuse r)) (s : State) :
    runInput x s = .next (s.refuse r) := by
  simp only [runInput, h]

/-- Settles O7. -/
theorem placedWordRunsNext : Obligations.PlacedWordRunsNext := by
  intro s nbits w i h
  exact runInput_of_decode (instr?_eq_some_iff.1 h) s

/-- Settles O9. -/
theorem illegalWordIsRefused : Obligations.IllegalWordIsRefused := by
  intro s w r hnext hd
  rw [step, hnext]
  exact runInput_of_refuse (x := .word w) hd s.popTurn

/-- Settles O44: each of the nine rows' meanings is the refusal. -/
theorem reservedOpcodesAreRefused : Obligations.ReservedOpcodesAreRefused := by
  intro s rest i hi
  simp only [List.mem_cons, List.not_mem_nil, or_false] at hi
  rcases hi with rfl | rfl | rfl | rfl | rfl | rfl | rfl | rfl | rfl <;> rfl

/-- Settles O3. -/
theorem exampleWordsDecode : Obligations.ExampleWordsDecode := by
  unfold Obligations.ExampleWordsDecode
  decide

/-! ### The slot operand (R97, R98, R138) -/

/-- An operation that names a slot does nothing before its slot operand is checked: INIT wants a fresh slot, every
other one a ready slot. -/
theorem exec_slot {i : Instr} {n : SlotIx} (s : State) (h : i.slot? = some n) :
    (i = .init n ∧ exec i s = .next (s.guardFresh n (s.initSlot n))) ∨
      i ≠ .init n ∧ ∃ done, exec i s = .next (s.guardReady n done) := by
  cases i <;> cases h
  case init => exact .inl ⟨rfl, rfl⟩
  all_goals exact .inr ⟨nofun, _, rfl⟩

/-- Settles O12. -/
theorem slotOperandsChecked : Obligations.SlotOperandsChecked := by
  intro s i n h
  rcases exec_slot s h with ⟨hi, e⟩ | ⟨hi, done, e⟩ <;> rw [e]
  · refine ⟨fun hn => ?_, fun hn _ hr => ?_, fun _ hne => absurd hi hne⟩
    · rw [State.guardFresh, if_neg (Nat.not_lt.2 hn)]
      rfl
    · rw [State.guardFresh, if_pos hn, if_pos hr]
      rfl
  · refine ⟨fun hn => ?_, fun _ hinit => absurd hinit hi, fun hn _ hr => ?_⟩
    · rw [State.guardReady, if_neg (Nat.not_lt.2 hn)]
      rfl
    · rw [State.guardReady, if_pos hn, if_neg (by simp [hr])]
      rfl

/-! ### Byte 1 of an encoded frame (R93, R101, R165) -/

/-- The checksum goes below the control nibble and leaves it as it is. -/
theorem controlNibble_or_low (ctl : Nibble) (x : Byte) :
    (ctl.setWidth 8 <<< 4 ||| x &&& 0x0F).extractLsb' 4 4 = ctl := by
  have hlow : (x &&& 0x0F).extractLsb' 4 4 = 0#4 := by
    rw [BitVec.extractLsb'_and]
    exact BitVec.and_zero
  have hhigh : (ctl.setWidth 8 <<< 4).extractLsb' 4 4 = ctl := by
    revert ctl
    decide
  rw [BitVec.extractLsb'_or, hlow, hhigh, BitVec.or_zero]

/-- The high nibble of an encoded frame's byte 1 is its control code. -/
theorem encodeF_b1_control (ctl : Nibble) (cid : Cid) (code : Code) :
    (encodeF ctl cid code).b1.extractLsb' 4 4 = ctl := controlNibble_or_low ctl _

/-- Settles O5. -/
theorem frameByteOneIsItsControlRow : Obligations.FrameByteOneIsItsControlRow := by
  intro cid code
  refine ⟨?_, ?_, ?_, ?_⟩ <;> simp [decodeFrameByte, encodeF_b1_control]

/-! ### The raw list of a frame burst (R190 to R193, R103) -/

/-- Where every part has `n` elements, element `n * k + j` of the whole is element `j` of part `k`. -/
theorem getElem?_flatten_of_length {α : Type} {n : Nat} {parts : List (List α)} (h : ∀ l ∈ parts, l.length = n)
    (k : Nat) {j : Nat} (hj : j < n) : parts.flatten[n * k + j]? = parts[k]?.bind fun l => l[j]? := by
  induction parts generalizing k with
  | nil => simp
  | cons l rest ih =>
    obtain ⟨hl, hrest⟩ := List.forall_mem_cons.1 h
    rw [List.flatten_cons]
    cases k with
    | zero =>
      rw [List.getElem?_append_left (by omega)]
      simp
    | succ k =>
      have hindex : n * (k + 1) + j = l.length + (n * k + j) := by rw [hl, Nat.mul_succ]; omega
      rw [hindex, List.getElem?_append_right (Nat.le_add_right ..), Nat.add_sub_cancel_left, ih hrest k]
      simp

theorem getElem?_flatMap_of_length {α β : Type} {n : Nat} {f : α → List β} (h : ∀ x, (f x).length = n)
    (l : List α) (k : Nat) {j : Nat} (hj : j < n) : (l.flatMap f)[n * k + j]? = l[k]?.bind fun x => (f x)[j]? := by
  rw [List.flatMap_def, getElem?_flatten_of_length (by simp [h]) k hj, List.getElem?_map]
  cases l[k]? <;> rfl

theorem length_bitSegments (b : Bool) : (bitSegments b).length = 2 := by cases b <;> rfl

theorem length_airBits (o : Frame) : (airBits o).length = 56 := rfl

theorem byteBits_getElem? (b : Byte) {j : Nat} (hj : j < 8) : (byteBits b)[j]? = some (b.getLsbD (7 - j)) := by
  match j, hj with
  | 0, _ | 1, _ | 2, _ | 3, _ | 4, _ | 5, _ | 6, _ | 7, _ => rfl

/-- Bit `k` on the air is bit `k mod 8` of byte `k div 8`, counted from the most significant one (R103). -/
theorem airBits_getElem? (o : Frame) {k : Nat} (hk : k < 56) :
    (airBits o)[k]? = some ((o.bytes.getD (k / 8) 0).getLsbD (7 - k % 8)) := by
  have hbyte : k / 8 < o.bytes.length := Nat.div_lt_of_lt_mul hk
  have hbit : k % 8 < 8 := Nat.mod_lt k (by decide)
  have hair := getElem?_flatMap_of_length (f := byteBits) (fun _ => rfl) o.bytes (k / 8) hbit
  rw [Nat.div_add_mod] at hair
  simpa [airBits, hbyte, byteBits_getElem? _ hbit] using hair

theorem length_hwSync (n : Nat) : (List.replicate n hwPulse).flatten.length = 2 * n := by
  simp [hwPulse, Nat.mul_comm]

theorem length_preamble (mode : SyncMode) : (preamble mode).length = 2 * hwPulses mode + 2 := by
  rw [preamble, List.length_append, length_hwSync]
  rfl

/-- The hardware-sync pulses stand at the head of the preamble (R191). -/
theorem preamble_getElem?_pulse {mode : SyncMode} {k j : Nat} (hk : k < hwPulses mode) (hj : j < 2) :
    (preamble mode)[2 * k + j]? = hwPulse[j]? := by
  rw [preamble, List.getElem?_append_left (by rw [length_hwSync]; omega),
    getElem?_flatten_of_length (fun l hl => by rw [List.eq_of_mem_replicate hl]; rfl) k hj]
  simp [hk]

/-- The software sync ends the preamble (R192). -/
theorem preamble_getElem?_sync (mode : SyncMode) (j : Nat) :
    (preamble mode)[2 * hwPulses mode + j]? = swSync[j]? := by
  rw [preamble, List.getElem?_append_right (by rw [length_hwSync]; omega), length_hwSync,
    Nat.add_sub_cancel_left]

/-- A frame burst starts with its preamble. -/
theorem buildF_getElem?_preamble (o : Frame) {mode : SyncMode} {i : Nat} (hi : i < 2 * hwPulses mode + 2) :
    (buildF o mode)[i]? = (preamble mode)[i]? :=
  List.getElem?_append_left (by rwa [length_preamble])

/-- After the preamble come the Manchester bits (R193). -/
theorem buildF_getElem?_bit (o : Frame) (mode : SyncMode) {k j : Nat} (hk : k < 56) (hj : j < 2) :
    (buildF o mode)[2 * hwPulses mode + 2 + 2 * k + j]? =
      (bitSegments ((o.bytes.getD (k / 8) 0).getLsbD (7 - k % 8)))[j]? := by
  rw [buildF, List.getElem?_append_right (by rw [length_preamble]; omega), length_preamble, Nat.add_assoc,
    Nat.add_sub_cancel_left, getElem?_flatMap_of_length length_bitSegments _ k hj, airBits_getElem? o hk]
  rfl

theorem length_buildF (o : Frame) (mode : SyncMode) :
    (buildF o mode).length = 2 * hwPulses mode + 2 + 112 := by
  simp [buildF, length_preamble, length_bitSegments, length_airBits]

/-- Settles O24. -/
theorem rawSegmentsAreManchester : Obligations.RawSegmentsAreManchester := by
  intro o mode pulses
  have hp : pulses = hwPulses mode := by cases mode <;> rfl
  clear_value pulses
  subst hp
  refine ⟨length_buildF o mode, fun k hk => ⟨?_, ?_⟩, ?_, ?_, fun k hk => ?_⟩
  · exact (buildF_getElem?_preamble o (by omega)).trans (preamble_getElem?_pulse (j := 0) hk (by decide))
  · exact (buildF_getElem?_preamble o (by omega)).trans (preamble_getElem?_pulse (j := 1) hk (by decide))
  · exact (buildF_getElem?_preamble o (by omega)).trans (preamble_getElem?_sync mode 0)
  · exact (buildF_getElem?_preamble o (by omega)).trans (preamble_getElem?_sync mode 1)
  · intro bit
    have hhalf (b : Bool) : bitSegments b =
        [⟨if b then .space else .mark, 604⟩, ⟨if b then .mark else .space, 604⟩] := by cases b <;> rfl
    refine ⟨(buildF_getElem?_bit o mode (j := 0) hk (by decide)).trans ?_,
      (buildF_getElem?_bit o mode (j := 1) hk (by decide)).trans ?_⟩ <;> rw [hhalf] <;> rfl

/-! ### The sizes of the bursts (R112, R197) -/

@[simp] theorem dur_append (a b : List Segment) : dur (a ++ b) = dur a + dur b := by simp [dur]

@[simp] theorem markTime_append (a b : List Segment) : markTime (a ++ b) = markTime a + markTime b := by
  simp [markTime]

/-- Every Manchester bit lasts one symbol, half of it mark (R193). -/
theorem dur_bits (bits : List Bool) :
    dur (bits.flatMap bitSegments) = 1208 * bits.length ∧
      markTime (bits.flatMap bitSegments) = 604 * bits.length := by
  induction bits with
  | nil => exact ⟨rfl, rfl⟩
  | cons b rest ih =>
    obtain ⟨hdur, hmark⟩ := ih
    have hbit : dur (bitSegments b) = 1208 ∧ markTime (bitSegments b) = 604 := by cases b <;> decide
    simp only [List.flatMap_cons, dur_append, markTime_append, hbit, hdur, hmark, List.length_cons]
    omega

/-- A frame burst lasts its preamble and 56 symbols. -/
theorem dur_buildF (o : Frame) (mode : SyncMode) :
    dur (buildF o mode) = dur (preamble mode) + 67648 ∧
      markTime (buildF o mode) = markTime (preamble mode) + 33824 := by
  simp [buildF, dur_bits, length_airBits]

/-- Settles O25. -/
theorem burstSizes : Obligations.BurstSizes := by
  refine ⟨by decide, fun o => ⟨⟨length_buildF o .full, ?_, ?_⟩, length_buildF o .abbreviated, ?_, ?_⟩⟩
  · rw [(dur_buildF o .full).1]; rfl
  · rw [(dur_buildF o .full).2]; rfl
  · rw [(dur_buildF o .abbreviated).1]; rfl
  · rw [(dur_buildF o .abbreviated).2]; rfl

/-! ### The canonical form (R111) -/

/-- The segment in hand takes up one of its own level (R111). -/
theorem canonFrom_same (l : Level) (a b : Nat) (rest : List Segment) :
    canonFrom ⟨l, a⟩ (⟨l, b⟩ :: rest) = canonFrom ⟨l, a + b⟩ rest := by simp [canonFrom]

/-- A segment of the other level starts anew (R111). -/
theorem canonFrom_ne {cur x : Segment} (h : x.level ≠ cur.level) (rest : List Segment) :
    canonFrom cur (x :: rest) = cur :: canonFrom x rest := by simp [canonFrom, h]

/-- The canonical form starts with the level of the segment in hand, and strictly alternates. -/
theorem canonFrom_isChain (cur : Segment) (rest : List Segment) :
    (∃ d tail, canonFrom cur rest = ⟨cur.level, d⟩ :: tail) ∧
      (canonFrom cur rest).IsChain (fun x y => x.level ≠ y.level) := by
  induction rest generalizing cur with
  | nil => exact ⟨⟨_, _, rfl⟩, .singleton _⟩
  | cons x rest ih =>
    by_cases h : x.level = cur.level
    · simpa [canonFrom, h] using ih ⟨cur.level, cur.dur + x.dur⟩
    · obtain ⟨⟨d, tail, hx⟩, hchain⟩ := ih x
      rw [canonFrom_ne h]
      refine ⟨⟨_, _, rfl⟩, ?_⟩
      rw [hx] at hchain ⊢
      exact .cons_cons (Ne.symm h) hchain

@[simp] theorem dur_cons (x : Segment) (rest : List Segment) : dur (x :: rest) = x.dur + dur rest := by simp [dur]

@[simp] theorem markTime_cons (x : Segment) (rest : List Segment) :
    markTime (x :: rest) = (if x.level = .mark then x.dur else 0) + markTime rest := by
  by_cases h : x.level = .mark <;> simp [markTime, h]

/-- Merging segments keeps the duration and the time at mark. -/
theorem canonFrom_dur (cur : Segment) (rest : List Segment) :
    dur (canonFrom cur rest) = dur (cur :: rest) ∧ markTime (canonFrom cur rest) = markTime (cur :: rest) := by
  induction rest generalizing cur with
  | nil => exact ⟨rfl, rfl⟩
  | cons x rest ih =>
    by_cases h : x.level = cur.level
    · obtain ⟨hdur, hmark⟩ := ih ⟨cur.level, cur.dur + x.dur⟩
      rw [canonFrom, if_pos h, hdur, hmark]
      refine ⟨by simp [Nat.add_assoc], ?_⟩
      by_cases hlevel : cur.level = .mark <;> simp [h, hlevel, Nat.add_assoc]
    · simp [canonFrom_ne h, ih]

/-- A list that alternates has nothing to merge. -/
theorem canonFrom_of_isChain {cur : Segment} {rest : List Segment}
    (h : (cur :: rest).IsChain (fun x y => x.level ≠ y.level)) : canonFrom cur rest = cur :: rest := by
  induction rest generalizing cur with
  | nil => rfl
  | cons x rest ih =>
    obtain ⟨hx, hrest⟩ := List.isChain_cons_cons.1 h
    rw [canonFrom_ne (Ne.symm hx), ih hrest]

/-- Settles O26. -/
theorem canonicalFormAlternates : Obligations.CanonicalFormAlternates := by
  refine ⟨rfl, fun _ => rfl, canonFrom_same, fun l m a b rest h => canonFrom_ne (Ne.symm h) rest, fun segs => ?_⟩
  cases segs with
  | nil => exact ⟨.nil, rfl, rfl, fun _ => rfl⟩
  | cons x rest =>
    obtain ⟨hdur, hmark⟩ := canonFrom_dur x rest
    exact ⟨(canonFrom_isChain x rest).2, hdur, hmark, canonFrom_of_isChain⟩

/-! ### A frame burst is a function of the level at each time (R198) -/

/-- The level of a segment list a time after its start. -/
def levelAt : List Segment → Nat → Option Level
  | [], _ => none
  | x :: rest, t => if t < x.dur then some x.level else levelAt rest (t - x.dur)

/-- Merging segments changes the level at no time. -/
theorem levelAt_canonFrom (cur : Segment) (rest : List Segment) (t : Nat) :
    levelAt (canonFrom cur rest) t = levelAt (cur :: rest) t := by
  induction rest generalizing cur t with
  | nil => rfl
  | cons x rest ih =>
    by_cases h : x.level = cur.level
    · rw [canonFrom, if_pos h, ih]
      by_cases hcur : t < cur.dur
      · simp [levelAt, hcur, Nat.lt_add_right _ hcur]
      · simp [levelAt, hcur, h, Nat.sub_sub, Nat.sub_lt_iff_lt_add' (Nat.not_lt.1 hcur)]
    · rw [canonFrom_ne h]
      simp only [levelAt, ih]

theorem levelAt_canon (segs : List Segment) : levelAt (canon segs) = levelAt segs := by
  cases segs with
  | nil => rfl
  | cons x rest => exact funext (levelAt_canonFrom x rest)

theorem levelAt_append (a b : List Segment) (t : Nat) : levelAt (a ++ b) (dur a + t) = levelAt b t := by
  induction a with
  | nil => simp [dur]
  | cons x rest ih => simp [levelAt, Nat.add_assoc, ih]

/-- A Manchester bit starts with a mark exactly where it is 0 (R193). -/
def firstLevel (b : Bool) : Level := if b then .space else .mark

/-- The level at the start of each symbol tells its bit. -/
theorem levelAt_bits (bits : List Bool) (k : Nat) :
    levelAt (bits.flatMap bitSegments) (1208 * k) = bits[k]?.map firstLevel := by
  induction bits generalizing k with
  | nil => rfl
  | cons b rest ih =>
    rw [List.flatMap_cons]
    cases k with
    | zero => cases b <;> rfl
    | succ k =>
      have hbit : dur (bitSegments b) = 1208 := by cases b <;> rfl
      have hnext := levelAt_append (bitSegments b) (rest.flatMap bitSegments) (1208 * k)
      rw [hbit, ih k] at hnext
      rw [Nat.mul_succ, Nat.add_comm, hnext]
      rfl

/-- The bits of a frame are read off its burst, symbol by symbol after the preamble. -/
theorem levelAt_buildF (o : Frame) (mode : SyncMode) (k : Nat) :
    levelAt (buildF o mode) (dur (preamble mode) + 1208 * k) = (airBits o)[k]?.map firstLevel := by
  rw [buildF, levelAt_append, levelAt_bits]

theorem firstLevel_injective : Function.Injective firstLevel := by decide

/-- A byte is its bits. -/
theorem byteBits_injective : Function.Injective byteBits := by
  intro a b h
  refine BitVec.eq_of_getLsbD_eq fun k hk => ?_
  have hbit : (byteBits a)[7 - k]? = (byteBits b)[7 - k]? := by rw [h]
  rw [byteBits_getElem? a (by omega), byteBits_getElem? b (by omega), Nat.sub_sub_self (by omega)] at hbit
  exact Option.some.inj hbit

theorem flatMap_byteBits_injective : Function.Injective fun l : List Byte => l.flatMap byteBits := by
  intro l l' h
  induction l generalizing l' with
  | nil => cases l' with
    | nil => rfl
    | cons b' rest' => cases h
  | cons b rest ih => cases l' with
    | nil => cases h
    | cons b' rest' =>
      obtain ⟨hb, hrest⟩ := List.append_inj h rfl
      rw [byteBits_injective hb, ih hrest]

/-- A frame is its bits on the air (R103). -/
theorem airBits_injective : Function.Injective airBits := by
  intro o o' h
  have hbytes : o.bytes = o'.bytes := flatMap_byteBits_injective h
  cases o; cases o'; simpa [Frame.bytes] using hbytes

/-- Settles O27. -/
theorem canonicalFormDeterminesFrame : Obligations.CanonicalFormDeterminesFrame := by
  intro o o' mode h
  apply airBits_injective
  have hlevel : levelAt (buildF o mode) = levelAt (buildF o' mode) := by
    rw [← levelAt_canon, h, levelAt_canon]
  refine List.ext_getElem? fun k => Option.map_injective firstLevel_injective ?_
  rw [← levelAt_buildF o mode, hlevel, levelAt_buildF]

/-! ### The one response of a host operation (R99) -/

/-- From `s` to `t` the trace gains events, no response among them. -/
def Silent (s t : State) : Prop := ∃ new, t.trace = s.trace ++ new ∧ ∀ e ∈ new, isResponse e = false

/-- From `s` to `t` the trace gains events without a response, and then one response. -/
def Answered (s t : State) : Prop :=
  ∃ new v, t.trace = s.trace ++ new ++ [.resp v] ∧ ∀ e ∈ new, isResponse e = false

theorem Silent.of_same {s t : State} (h : t.trace = s.trace) : Silent s t := ⟨[], by simpa using h, by simp⟩

theorem Silent.emit (s : State) {e : Event} (h : isResponse e = false) : Silent s (s.emit e) :=
  ⟨[e], rfl, by simpa using h⟩

theorem Silent.trans {s t u : State} (h₁ : Silent s t) (h₂ : Silent t u) : Silent s u := by
  obtain ⟨a, ha, hsa⟩ := h₁
  obtain ⟨b, hb, hsb⟩ := h₂
  exact ⟨a ++ b, by rw [hb, ha, List.append_assoc], List.forall_mem_append.2 ⟨hsa, hsb⟩⟩

/-- A response that ends a silent operation is its one response. -/
theorem Silent.respond {s t : State} (h : Silent s t) (v : Resp) : Answered s (t.respond v) := by
  obtain ⟨new, ht, hs⟩ := h
  exact ⟨new, v, by rw [State.respond_trace, ht], hs⟩

/-- A save with its possible error and its notification answers nothing (R71, R133). -/
theorem silent_persistSlot (s : State) (n : SlotIx) : Silent s (s.persistSlot n) := by
  refine ⟨_, State.persistSlot_trace s n, ?_⟩
  cases s.saveReply <;> simp [isResponse]

theorem silent_consumeBody (s : State) (n : SlotIx) : Silent s (s.consumeBody n) :=
  (Silent.of_same (by simp)).trans (silent_persistSlot (s.setCode n _) n)

/-- An ENQUEUE answers nothing but the events of its CONSUME before its response (R220). -/
theorem silent_enqueue (s : State) (ctl : Nibble) (n : SlotIx) (maxrep : BitVec 8) :
    Silent s (s.enqueue ctl n maxrep) := by
  obtain ⟨_, _, htrace⟩ := State.enqueue_consumes s ctl n maxrep
  exact (silent_consumeBody s n).trans (.of_same htrace)

theorem silent_applyCid (s : State) (n : SlotIx) (a : Option Cid) : Silent s (s.applyCid n a) := by
  cases a with
  | none => exact .of_same rfl
  | some v => exact (Silent.emit s (e := .log _) rfl).trans (.of_same rfl)

theorem silent_applyCode (s : State) (n : SlotIx) (c : Option Code) : Silent s (s.applyCode n c) := by
  cases c with
  | none => exact .of_same rfl
  | some v => exact (Silent.emit s (e := .log _) rfl).trans (.of_same rfl)

/-- CONFIG_CHANNEL with a field answers the channel after its save (R135). -/
theorem answered_configFields (s : State) (n : SlotIx) (a : Option Cid) (c : Option Code) :
    Answered s (s.configFields n a c) :=
  (((silent_applyCid s n a).trans (silent_applyCode _ n c)).trans (silent_persistSlot _ n)).respond _

/-- INIT's last part ends with the one response of an INIT that was silent so far. -/
theorem Silent.finishInit {s t : State} (h : Silent s t) (n : SlotIx) : Answered s (t.finishInit n) :=
  ((h.trans (.of_same rfl)).trans (.emit (t.setSlot n _) (e := .log _) rfl)).respond _

/-- INIT answers the slot it loaded or seeded (R130). -/
theorem answered_initSlot (s : State) (n : SlotIx) : Answered s (s.initSlot n) := by
  have hload : Silent s (s.memRead (s.keyOf n)) := ⟨_, State.memRead_trace s _, by simp [isResponse]⟩
  unfold State.initSlot
  split
  · exact (hload.trans (.of_same (by simp))).finishInit n
  · have hseed (t : State) : Silent t (seededSlot n t) :=
      ⟨[.rand t.randReply, .rand t.rand32.randReply, .log (.freshPair n)], by simp [seededSlot],
        by simp [isResponse]⟩
    exact (hload.trans (hseed _)).finishInit n

/-- A host operation is refused or answered (R99, R280). -/
theorem effect_refused_or_answered {i : Instr} {s t : State} (h : Effect i s t) (hstep : i ≠ .step)
    (hwake : i ≠ .wakeExpire) (hreset : i ≠ .reset) : (∃ r, t = s.refuse r) ∨ Answered s t := by
  cases h with
  | refuse r => exact .inl ⟨r, rfl⟩
  | init n => exact .inr (answered_initSlot s n)
  | consume n => exact .inr ((silent_consumeBody s n).respond _)
  | configNothing n => exact .inr ((Silent.emit s (e := .log _) rfl).respond _)
  | configFields n a c => exact .inr (answered_configFields s n a c)
  | enqueue n ctl maxrep => exact .inr ((silent_enqueue s ctl n maxrep).respond _)
  | ignored n sub => exact .inr ((Silent.emit s (e := .log _) rfl).respond _)
  | answer v => exact .inr ((Silent.of_same rfl).respond v)
  | step => exact absurd rfl hstep
  | stepDisabled => exact absurd rfl hstep
  | wakeExpire => exact absurd rfl hwake
  | wakeDisabled => exact absurd rfl hwake
  | reset => exact absurd rfl hreset

/-- Settles O56. -/
theorem oneResponseAtTheEnd : Obligations.OneResponseAtTheEnd :=
  fun _ _ _ hstep hwake hreset h => effect_refused_or_answered (exec_effect h) hstep hwake hreset

/-- A silent operation leaves the responses as they were. -/
theorem Silent.responsesOf_eq {s t : State} (h : Silent s t) : responsesOf t.trace = responsesOf s.trace := by
  obtain ⟨new, ht, hs⟩ := h
  have hnew : responsesOf new = [] := by
    refine List.filterMap_eq_nil_iff.2 fun e he => ?_
    cases e with
    | resp v => exact absurd (hs _ he) (by simp [isResponse])
    | _ => rfl
  rw [ht, responsesOf, List.filterMap_append]
  exact (congrArg (responsesOf s.trace ++ ·) hnew).trans (List.append_nil _)

/-- STEP adds a burst or an error to the trace, or nothing (R240). -/
theorem silent_schedulerStep (s : State) (abbreviated : Bool) : Silent s (s.schedulerStep abbreviated) := by
  rcases schedulerStep_trace s abbreviated with ht | ⟨e, ht⟩ | ⟨_, ht⟩ | ⟨segs, ht⟩
  · exact .of_same ht
  · exact ⟨_, ht, by simp [isResponse]⟩
  · exact ⟨_, ht, by simp [isResponse]⟩
  · exact ⟨_, ht, by simp [isResponse]⟩

/-- Settles O57. -/
theorem eventsAnswerNothing : Obligations.EventsAnswerNothing := by
  intro i s t hi h
  apply Silent.responsesOf_eq
  rcases hi with rfl | rfl
  · cases exec_effect h with
    | step abbreviated _ => exact silent_schedulerStep s abbreviated
    | stepDisabled => exact .of_same rfl
    | _ => contradiction
  · cases exec_effect h with
    | wakeExpire _ => exact .of_same (by simp)
    | wakeDisabled => exact .of_same rfl
    | _ => contradiction

end Sys2Proof.Machine

/-! PROOFS. RollingChannel (40_rolling_channel.md): what a mutated slot's save writes and emits, CONSUME,
CONFIG_CHANNEL with a field present, and the codes of CONSUMEs in a row. -/

namespace Sys2Proof.Machine

/-! ### The save of a mutated slot (R71) -/

/-- Writing a record at a slot's key, where the save succeeded, is the store's change the claims speak of (R63). -/
theorem storeSaved_of_store {s t : State} {n : SlotIx} {r : List Byte} {ok : Bool}
    (h : t.store = s.storeAfter (s.keyOf n) r ok) : StoreSaved n r ok s t := by
  refine ⟨?_, fun k hk => ?_⟩
  · rw [h, read_storeAfter]
    simp
  · rw [h, read_storeAfter, if_neg fun hsaved => hk hsaved.2]

/-- Saving the slot of a state `t` that was reached from `s` without a save or a draw: the events and the record are
those of the slot's values in `t`, the key and the answer those of `s`. -/
theorem persistSlot_saves {s t : State} {n : SlotIx} {c : ChanSlot}
    (hsame : t.cfg = s.cfg ∧ t.store = s.store ∧ t.env = s.env ∧ t.draws = s.draws) (hslot : t.slot n = c) :
    (t.persistSlot n).trace = t.trace ++ savedEvents n (s.keyOf n) c.cid c.code s.saveReply ∧
      StoreSaved n (recordOf c.cid c.code) s.saveReply s (t.persistSlot n) := by
  obtain ⟨hcfg, hstore, henv, hdraws⟩ := hsame
  have hkey : t.keyOf n = s.keyOf n := keyOf_congr hcfg n
  have hreply : t.saveReply = s.saveReply := (State.replies_congr henv hdraws).1
  constructor
  · rw [State.persistSlot_trace, hkey, hreply, hslot, savedEvents]
  · apply storeSaved_of_store
    rw [State.persistSlot_store, hkey, hreply, hslot, State.storeAfter, hstore, State.storeAfter]

/-- A slot operation on a ready slot of the file is performed (R97, R138). -/
theorem guardReady_of_ready {s : State} {n : SlotIx} (hn : n.toNat < s.cfg.nch) (hr : (s.slot n).ready = true)
    (done : State) : s.guardReady n done = done := by
  rw [State.guardReady, if_pos hn, if_pos hr]

/-! ### CONSUME (R131, R133) -/

/-- CONSUME of a ready slot of the file is performed. -/
theorem exec_consume {s : State} {n : SlotIx} (hn : n.toNat < s.cfg.nch) (hr : (s.slot n).ready = true) :
    exec (.consume n) s = .next ((s.consumeBody n).respond (.code (nextCode (s.slot n).code))) :=
  congrArg Host.Outcome.next (guardReady_of_ready hn hr _)

/-- CONSUME's save is the one of the advanced counter. -/
theorem consumeBody_saves {s : State} {n : SlotIx} (h : n.toNat < s.ch.length) :
    (s.consumeBody n).trace = s.trace ++
        savedEvents n (s.keyOf n) (s.slot n).cid (nextCode (s.slot n).code + 1) s.saveReply ∧
      StoreSaved n (recordOf (s.slot n).cid (nextCode (s.slot n).code + 1)) s.saveReply s (s.consumeBody n) :=
  persistSlot_saves (t := s.setCode n (nextCode (s.slot n).code + 1)) (by simp) (s.setCode_slot_same n _ h)

/-- Settles O13. -/
theorem consumeAdvancesCounter : Obligations.ConsumeAdvancesCounter := by
  intro s n hslots hn hr
  obtain ⟨_, hlen⟩ := hslots
  have hfile : n.toNat < s.ch.length := hlen ▸ hn
  obtain ⟨htrace, hstore⟩ := consumeBody_saves hfile
  refine ⟨_, exec_consume hn hr, s.consumeBody_slot_same n hfile, ?_, hstore,
    ⟨by simp, fun m hm => s.consumeBody_slot_other n m hm⟩, by simp [SameMarks], by simp [SameScheduler]⟩
  rw [State.respond_trace, htrace]
  rfl

/-! ### CONFIG_CHANNEL with a field present (R135) -/

/-- The slot takes the channel id that is present. -/
theorem applyCid_slot_same (s : State) {n : SlotIx} (a : Option Cid) (h : n.toNat < s.ch.length) :
    (s.applyCid n a).slot n = { s.slot n with cid := a.getD (s.slot n).cid } := by
  cases a with
  | none => rfl
  | some v => exact (s.log _).setCid_slot_same n v h

/-- The slot takes the stored code that is present. -/
theorem applyCode_slot_same (s : State) {n : SlotIx} (c : Option Code) (h : n.toNat < s.ch.length) :
    (s.applyCode n c).slot n = { s.slot n with code := c.getD (s.slot n).code } := by
  cases c with
  | none => rfl
  | some v => exact (s.log _).setCode_slot_same n v h

/-- A channel id that is present is logged. -/
theorem applyCid_trace (s : State) (n : SlotIx) (a : Option Cid) :
    (s.applyCid n a).trace = s.trace ++ a.toList.map fun v => .log (.configId n (s.slot n).cid v) := by
  cases a <;> simp [State.applyCid]

/-- A stored code that is present is logged. -/
theorem applyCode_trace (s : State) (n : SlotIx) (c : Option Code) :
    (s.applyCode n c).trace = s.trace ++ c.toList.map fun v => .log (.configCode n (s.slot n).code v) := by
  cases c <;> simp [State.applyCode]

/-- CONFIG_CHANNEL, whichever fields are present: they are applied, and then the slot is saved once. -/
theorem configured_configFields {s : State} {n : SlotIx} (a : Option Cid) (c : Option Code)
    (h : n.toNat < s.ch.length) : Configured n a c s (s.configFields n a c) := by
  have hcid := applyCid_slot_same s a h
  have hslot : ((s.applyCid n a).applyCode n c).slot n =
      { s.slot n with cid := a.getD (s.slot n).cid, code := c.getD (s.slot n).code } := by
    rw [applyCode_slot_same _ c (by simpa using h), hcid]
  obtain ⟨htrace, hstore⟩ := persistSlot_saves (s := s) (by simp) hslot
  have hsaved : (((s.applyCid n a).applyCode n c).persistSlot n).slot n = _ :=
    (State.slot_congr (by simp) n).trans hslot
  refine ⟨hsaved, ⟨by simp, fun m hm => configFields_slot_other s n m a c hm⟩, ?_, hstore, by simp [SameMarks],
    by simp [SameScheduler]⟩
  rw [State.configFields, State.respondChannel, State.respond_trace, hsaved, htrace, applyCode_trace, hcid,
    applyCid_trace]

/-- Settles O14: the three forms are one operation with different fields present. -/
theorem configAppliesPresentFields : Obligations.ConfigAppliesPresentFields := by
  intro s n a c hslots hn hr
  obtain ⟨_, hlen⟩ := hslots
  have hfile : n.toNat < s.ch.length := hlen ▸ hn
  have hready := guardReady_of_ready hn hr
  exact ⟨⟨_, congrArg Host.Outcome.next (hready _), configured_configFields (some a) none hfile⟩,
    ⟨_, congrArg Host.Outcome.next (hready _), configured_configFields none (some c) hfile⟩,
    ⟨_, congrArg Host.Outcome.next (hready _), configured_configFields (some a) (some c) hfile⟩⟩

/-! ### CONSUMEs in a row (R134) -/

/-- The code that the CONSUME after `j` others returns, from a stored code: counted modulo 2^16 with 0 skipped. -/
def codeAfter (stored : Code) (j : Nat) : Code := BitVec.ofNat 16 (((nextCode stored).toNat - 1 + j) % 65535 + 1)

theorem nextCode_toNat_pos (c : Code) : 0 < (nextCode c).toNat :=
  Nat.pos_of_ne_zero fun h => nextCode_ne_zero c (BitVec.eq_of_toNat_eq h)

/-- The first CONSUME returns the stored code, 0 read as 1 (R132). -/
theorem codeAfter_zero (c : Code) : codeAfter c 0 = nextCode c := by
  have hpos := nextCode_toNat_pos c
  have hlt := (nextCode c).isLt
  apply BitVec.eq_of_toNat_eq
  rw [codeAfter, BitVec.toNat_ofNat]
  omega

/-- The next code is the successor of the code before it, but 1 after 0xFFFF. -/
theorem nextCode_succ_toNat {v : Code} (h : 0 < v.toNat) : (nextCode (v + 1)).toNat = v.toNat % 65535 + 1 := by
  have hlt := v.isLt
  have hsucc : (v + 1).toNat = (v.toNat + 1) % 2 ^ 16 := BitVec.toNat_add v 1
  unfold nextCode
  split
  · rename_i hzero
    have hwrap : (v + 1).toNat = 0 := congrArg BitVec.toNat hzero
    have hone : (1 : Code).toNat = 1 := rfl
    omega
  · rename_i hne
    have hnowrap : (v + 1).toNat ≠ 0 := fun hzero => hne (BitVec.eq_of_toNat_eq hzero)
    omega

/-- What is consumed after the first CONSUME is consumed from the counter it stored. -/
theorem codeAfter_succ (c : Code) (j : Nat) : codeAfter c (j + 1) = codeAfter (nextCode c + 1) j := by
  have hpos := nextCode_toNat_pos c
  rw [codeAfter, codeAfter, nextCode_succ_toNat hpos]
  congr 2
  omega

/-- CONSUME of a ready slot leaves it fit for the next one: the counter advances, the transitions presented stay,
and the one response is the consumed code. -/
theorem exec_consume_ready {s : State} {n : SlotIx} (hslots : SlotsOk s) (hn : n.toNat < s.cfg.nch)
    (hr : (s.slot n).ready = true) :
    ∃ t, exec (.consume n) s = .next t ∧ t.env.turns = s.env.turns ∧ SlotsOk t ∧ t.cfg = s.cfg ∧
      t.slot n = { s.slot n with code := nextCode (s.slot n).code + 1 } ∧
      responsesOf t.trace = responsesOf s.trace ++ [.code (nextCode (s.slot n).code)] := by
  have hexec := exec_consume hn hr
  have heffect := exec_effect hexec
  have hfile : n.toNat < s.ch.length := hslots.2 ▸ hn
  refine ⟨_, hexec, effect_turns heffect, effect_slotsOk heffect hslots, effect_cfg heffect,
    s.consumeBody_slot_same n hfile, ?_⟩
  rw [State.respond_trace, responsesOf, List.filterMap_append]
  exact congrArg (· ++ _) (silent_consumeBody s n).responsesOf_eq

/-- A slot is not part of what the environment presents. -/
@[simp] theorem withEnv_slot (s : State) (v : Env) (n : SlotIx) : (s.withEnv v).slot n = s.slot n := rfl

/-- CONSUMEs of one ready slot in a row return the codes from its stored one on. -/
theorem run_consumes {k : Nat} {s : State} {n : SlotIx} {rest : List Turn} (hslots : SlotsOk s)
    (hn : n.toNat < s.cfg.nch) (hr : (s.slot n).ready = true)
    (hturns : s.env.turns = List.replicate k (.input (encode (.consume n))) ++ rest) :
    ∃ t, core.run k s = .next t ∧
      responsesOf t.trace = responsesOf s.trace ++
        (List.range k).map fun j => .code (codeAfter (s.slot n).code j) := by
  induction k generalizing s with
  | zero => exact ⟨s, rfl, by simp⟩
  | succ k ih =>
    have hstep := step_presented hturns (decodeOfEncode (.consume n))
    obtain ⟨s', hexec, hturns', hslots', hcfg, hslot, hresp⟩ :=
      exec_consume_ready (s := s.withEnv { s.env with turns := List.replicate k _ ++ rest }) hslots hn hr
    obtain ⟨t, hrun, hresps⟩ := ih hslots' (hcfg ▸ hn) (by rw [hslot]; exact hr) hturns'
    refine ⟨t, (run_succ (hstep.trans hexec)).trans hrun, ?_⟩
    rw [hresps, hresp, hslot, List.range_succ_eq_map]
    simp [codeAfter_zero, codeAfter_succ, Function.comp_def]

/-- Settles O16, by induction on the number of CONSUMEs. -/
theorem consumedCodesSkipZero : Obligations.ConsumedCodesSkipZero :=
  fun _ _ _ _ hslots hn hr hturns => run_consumes hslots hn hr hturns

end Sys2Proof.Machine

/-! PROOFS. PacketEncoder (41_packet_encoder.md): the checksum as a nibble parity, the fields of the encoded frame,
the obfuscation chain and its inverse, what a receiver reads off the air, and ENCODE. -/

namespace Sys2Proof.Machine

/-! ### The checksum is the nibble parity (R164) -/

/-- The low nibble of a folded byte is the XOR of its two nibbles. -/
theorem foldByte_lowNibble (b : Byte) :
    (foldByte b).extractLsb' 0 4 = b.extractLsb' 4 4 ^^^ b.extractLsb' 0 4 := by
  have hshift : (b >>> 4).extractLsb' 0 4 = b.extractLsb' 4 4 := by
    ext i hi
    simp
  rw [foldByte, BitVec.extractLsb'_xor, hshift, BitVec.xor_comm]

/-- Taking the low nibble commutes with XOR, so the folded bytes XOR to the parity of the nibbles. -/
theorem checksumSum_lowNibble (e : Frame) :
    (e.bytes.foldl (fun chk b => chk ^^^ foldByte b) 0).extractLsb' 0 4 = nibbleParity e :=
  (List.foldl_hom (BitVec.extractLsb' 0 4) fun x b => by
    rw [BitVec.extractLsb'_xor, foldByte_lowNibble, BitVec.xor_assoc]).symm

/-- Masking a byte keeps its low nibble. -/
theorem and_lowMask (x : Byte) : x &&& 0x0F = (x.extractLsb' 0 4).setWidth 8 := by
  revert x
  decide

theorem checksum_eq_nibbleParity (e : Frame) : checksum e = (nibbleParity e).setWidth 8 := by
  rw [checksum, and_lowMask, checksumSum_lowNibble]

/-- The encoded frame, its checksum as the parity of the nibbles before insertion. -/
theorem encodeF_eq_parity (ctl : Nibble) (cid : Cid) (code : Code) :
    encodeF ctl cid code = { frameWithoutChecksum ctl cid code with
      b1 := (frameWithoutChecksum ctl cid code).b1 |||
        (nibbleParity (frameWithoutChecksum ctl cid code)).setWidth 8 } := by
  rw [← checksum_eq_nibbleParity]
  rfl

/-- Byte 1 before the checksum is the control code above a zero nibble (R161). -/
theorem frameWithoutChecksum_b1_toNat (ctl : Nibble) (cid : Cid) (code : Code) :
    (frameWithoutChecksum ctl cid code).b1.toNat = 16 * ctl.toNat := by
  show (ctl.setWidth 8 <<< 4).toNat = _
  revert ctl
  decide

/-- Settles O19. -/
theorem checksumIsNibbleParity : Obligations.ChecksumIsNibbleParity := by
  intro ctl cid code
  refine ⟨rfl, frameWithoutChecksum_b1_toNat ctl cid code, ?_, encodeF_eq_parity ctl cid code⟩
  rw [List.foldl_map]
  rfl

/-! ### The fields of the encoded frame (R162, R163) -/

/-- The three low bytes of a channel id are those of its low 24 bits. -/
theorem frameWithoutChecksum_low24 (ctl : Nibble) (cid : Cid) (code : Code) :
    frameWithoutChecksum ctl (cid &&& 0x00FFFFFF) code = frameWithoutChecksum ctl cid code := by
  have hkeep (start : Nat) (h : (0x00FFFFFF : Cid).extractLsb' start 8 = BitVec.allOnes 8) :
      (cid &&& 0x00FFFFFF).extractLsb' start 8 = cid.extractLsb' start 8 := by
    rw [BitVec.extractLsb'_and, h, BitVec.and_allOnes]
  simp only [frameWithoutChecksum, hkeep 0 rfl, hkeep 8 rfl, hkeep 16 rfl]

/-- Settles O18. -/
theorem encodedFrameFields : Obligations.EncodedFrameFields := by
  intro ctl cid code
  have hcontrol : (encodeF ctl cid code).b1.toNat / 16 = ctl.toNat := by
    have hnibble := congrArg BitVec.toNat (encodeF_b1_control ctl cid code)
    rw [BitVec.extractLsb'_toNat, Nat.shiftRight_eq_div_pow] at hnibble
    have hbyte := (encodeF ctl cid code).b1.isLt
    omega
  have hhigh : (code.extractLsb' 8 8).toNat = code.toNat / 256 := by
    have hcode := code.isLt
    rw [extractByte_toNat]
    omega
  have hlow (w : Nat) (x : BitVec w) : (x.extractLsb' 0 8).toNat = x.toNat % 256 := by
    rw [extractByte_toNat, Nat.pow_zero, Nat.div_one]
  refine ⟨rfl, hcontrol, hhigh, hlow _ code, hlow _ cid, extractByte_toNat cid 8, extractByte_toNat cid 16, ?_⟩
  rw [encodeF, encodeF, frameWithoutChecksum_low24]

/-! ### The obfuscation chain and its inverse (R166, R167) -/

@[simp] theorem deobfF_obfF (e : Frame) : deobfF (obfF e) = e := by
  simp only [deobfF, obfF, xor_cancel_right]

@[simp] theorem obfF_deobfF (o : Frame) : obfF (deobfF o) = o := by
  simp only [deobfF, obfF, xor_cancel_right]

/-- Each obfuscated byte is the XOR of the bytes up to it. -/
theorem obfF_bytes (e : Frame) :
    (obfF e).bytes = (List.range 7).map fun i => (e.bytes.take (i + 1)).foldl (· ^^^ ·) 0 := by
  simp [obfF, Frame.bytes, List.range_succ, BitVec.xor_comm]

/-- Settles O21. -/
theorem obfuscationInverts : Obligations.ObfuscationInverts :=
  ⟨fun e => ⟨rfl, rfl, rfl, rfl, rfl, rfl, rfl, obfF_bytes e⟩, fun _ => ⟨rfl, rfl, rfl, rfl, rfl, rfl, rfl⟩,
    deobfF_obfF, obfF_deobfF⟩

/-! ### What a receiver reads off the air (R168, R169) -/

/-- A nibble put below byte 1, where there was none, adds itself to the parity. -/
theorem nibbleParity_insert {e : Frame} (p : Nibble) (h : e.b1.extractLsb' 0 4 = 0#4) :
    nibbleParity { e with b1 := e.b1 ||| p.setWidth 8 } = nibbleParity e ^^^ p := by
  have hhigh : (p.setWidth 8).extractLsb' 4 4 = 0#4 := by
    revert p
    decide
  have hlow : (p.setWidth 8).extractLsb' 0 4 = p := by
    revert p
    decide
  simp only [nibbleParity, Frame.bytes, List.foldl_cons, List.foldl_nil, BitVec.extractLsb'_or, hhigh, hlow, h,
    BitVec.or_zero, BitVec.zero_or, BitVec.xor_zero]
  ac_rfl

/-- The checksum completes the parity of an encoded frame to 0. -/
theorem nibbleParity_encodeF (ctl : Nibble) (cid : Cid) (code : Code) : nibbleParity (encodeF ctl cid code) = 0 := by
  have hempty : (frameWithoutChecksum ctl cid code).b1.extractLsb' 0 4 = 0#4 := by
    show (ctl.setWidth 8 <<< 4).extractLsb' 0 4 = 0#4
    revert ctl
    decide
  rw [encodeF_eq_parity, nibbleParity_insert _ hempty, BitVec.xor_self]
  rfl

/-- Settles O20: the receiver undoes the obfuscation, so it checks the encoded frame itself. -/
theorem builtFramesAreValid : Obligations.BuiltFramesAreValid := by
  intro ctl cid code
  have hparity := nibbleParity_encodeF ctl cid code
  have hnonce : (encodeF ctl cid code).b0 = nonce := rfl
  exact ⟨hparity, by simp [validF, hparity, hnonce]⟩

/-- Settles O22. -/
theorem controlCodeRecoverableFromAir : Obligations.ControlCodeRecoverableFromAir := by
  intro ctl cid code
  have hundone : (obfF (encodeF ctl cid code)).b1 ^^^ (obfF (encodeF ctl cid code)).b0 = (encodeF ctl cid code).b1 :=
    xor_cancel_right _ _
  exact ⟨rfl, by rw [hundone, encodeF_b1_control]⟩

/-! ### ENCODE (R160) -/

/-- Settles O17: ENCODE appends its response to the trace and does nothing else. -/
theorem encodeAnswersBothFrames : Obligations.EncodeAnswersBothFrames :=
  fun _ _ _ _ => rfl

end Sys2Proof.Machine

/-! PROOFS. WaveformEncoder (42_waveform_encoder.md): what BUILD_WAVEFORM answers. -/

namespace Sys2Proof.Machine

/-! ### BUILD_WAVEFORM (R190) -/

/-- In either mode the whole effect is the one response; no other field of the state moves. -/
theorem State.answerWaveform_eq (o : Frame) (mode : SyncMode) (s : State) :
    s.answerWaveform o mode = { s with trace := s.trace ++ [.resp (.segments (buildF o mode))] } := rfl

/-- Settles O23: the two operations are one answer in their two modes. -/
theorem waveAnswersRawSegments : Obligations.WaveAnswersRawSegments := fun s o =>
  ⟨congrArg Host.Outcome.next (State.answerWaveform_eq o .full s),
    congrArg Host.Outcome.next (State.answerWaveform_eq o .abbreviated s)⟩

end Sys2Proof.Machine

/-! PROOFS. TransmissionScheduler (43_scheduler.md): the bursts in the trace and the two properties of them that
every step keeps, ENQUEUE, the cases of STEP, and the queue sent to its end or cancelled. -/

namespace Sys2Proof.Machine

/-! ### What an operation does to the bursts -/

/-- Outside STEP and RESET an operation adds no burst, a needed wakeup stays needed, and the queue and the
continuation move by an ENQUEUE alone. -/
theorem effect_bursts {i : Instr} {s t : State} (h : Effect i s t) :
    (∃ abbreviated, s.stepEnabled = some abbreviated ∧ t = s.schedulerStep abbreviated) ∨
    t = s.resetBlock ∨
    Emits 1 s t ∧ (s.needsWakeup = true → t.needsWakeup = true) ∧
      ((t.q = s.q ∧ t.failureObserved = s.failureObserved ∧ t.pend = s.pend) ∨
        ∃ n ctl maxrep, t = (s.enqueue ctl n maxrep).respond .accepted) := by
  by_cases hstep : i = .step
  · subst hstep
    cases h with
    | step abbreviated he => exact .inl ⟨abbreviated, he, rfl⟩
    | stepDisabled => exact .inr (.inr ⟨Emits.weaken (.of_same rfl), id, .inl ⟨rfl, rfl, rfl⟩⟩)
    | _ => contradiction
  by_cases hreset : i = .reset
  · subst hreset
    exact .inr (.inl (effect_reset h))
  refine .inr (.inr ⟨effect_emits h hstep hreset, ?_⟩)
  rcases effect_scheduler h with
    ⟨hq, hn, hf, _, hp, _⟩ | ⟨n, ctl, maxrep, _, _, _, rfl⟩ | ⟨_, hi, _⟩ | ⟨_, _, rfl⟩ | ⟨hi, _⟩
  · exact ⟨hn.trans, .inl ⟨hq, hf, hp⟩⟩
  · exact ⟨by simp, .inr ⟨n, ctl, maxrep, rfl⟩⟩
  · exact absurd hi hstep
  · exact ⟨by simp, .inl (by simp)⟩
  · exact absurd hi hreset

theorem emits_cancelBatch (s : State) : Emits 1 s s.cancelBatch :=
  ⟨_, State.cancelBatch_trace s, rfl, Nat.le_refl 1⟩

/-! ### The first accepted burst (R255(h)) -/

theorem acceptedBursts_append (a b : List Event) :
    acceptedBursts (a ++ b) = acceptedBursts a ++ acceptedBursts b := by
  simp [acceptedBursts, bursts]

/-- A burst is put on the air where it is accepted (R50). -/
theorem acceptedBursts_tx (kind : BurstKind) (segs : List Segment) (ok : Bool) :
    acceptedBursts [.tx kind segs ok] = if ok then [(kind, true)] else [] := by
  cases ok <;> rfl

/-- Where no burst is added, the property stays if a needed wakeup stays needed. -/
theorem wakeupFirst_of_emits {n : Nat} {s t : State} (hs : WakeupFirst s) (h : Emits n s t)
    (hneeds : s.needsWakeup = true → t.needsWakeup = true) : WakeupFirst t := by
  obtain ⟨hhead, hnone⟩ := hs
  obtain ⟨new, ht, hb, _⟩ := h
  have hnew : acceptedBursts new = [] := by simp [acceptedBursts, hb]
  rw [WakeupFirst, ht, acceptedBursts_append, hnew, List.append_nil]
  exact ⟨hhead, fun h => hneeds (hnone h)⟩

/-- Further accepted bursts do not change which was the first. -/
theorem wakeupFirst_of_append {s t : State} {new : List Event} (hs : WakeupFirst s)
    (ht : t.trace = s.trace ++ new) (hne : acceptedBursts s.trace ≠ []) : WakeupFirst t := by
  obtain ⟨b, rest, hb⟩ := List.exists_cons_of_ne_nil hne
  have hhead := hs.1
  rw [hb] at hhead
  rw [WakeupFirst, ht, acceptedBursts_append, hb]
  exact ⟨hhead, nofun⟩

/-- STEP offers a frame only where no wakeup is needed, so after an accepted burst; an accepted wakeup is the
first burst or comes after it (R240, R243). -/
theorem schedulerStep_wakeupFirst {s : State} (abbreviated : Bool) (hs : WakeupFirst s) :
    WakeupFirst (s.schedulerStep abbreviated) := by
  rcases State.schedulerStep_cases s abbreviated with
    ⟨_, e⟩ | ⟨_, _, e⟩ | ⟨_, _, hn, e⟩ | ⟨c, rest, _, _, hn, e⟩ <;> rw [e]
  · exact wakeupFirst_of_emits hs (.of_same (by simp)) (by simp)
  · exact wakeupFirst_of_emits hs (emits_cancelBatch (s.withPend none)) (by simp)
  · by_cases hnone : acceptedBursts s.trace = []
    · cases hr : s.txReply <;>
        simp [WakeupFirst, State.wakeStep_fields, acceptedBursts_append, acceptedBursts_tx, hnone, hr, hn]
    · exact wakeupFirst_of_append hs (State.wakeStep_fields s).1 hnone
  · have hne : acceptedBursts s.trace ≠ [] := fun h => by simp [hs.2 h] at hn
    exact wakeupFirst_of_append hs (State.frameStep_fields s abbreviated c rest).1 hne

/-- Every operation keeps the first accepted burst a WAKEUP. -/
theorem effect_wakeupFirst {i : Instr} {s t : State} (h : Effect i s t) (hs : WakeupFirst s) :
    WakeupFirst t := by
  rcases effect_bursts h with ⟨abbreviated, _, rfl⟩ | rfl | ⟨hemits, hneeds, _⟩
  · exact schedulerStep_wakeupFirst abbreviated hs
  · simp [WakeupFirst, acceptedBursts, bursts]
  · exact wakeupFirst_of_emits hs hemits hneeds

/-- Settles O48: taking up a transition, an advance and a refusal add no burst; each operation keeps the property. -/
theorem stepKeepsWakeupFirst : Obligations.StepKeepsWakeupFirst := by
  intro s t hs h
  rcases step_cases h with ⟨d, _, rfl⟩ | ⟨w, r, _, rfl⟩ | ⟨x, i, _, _, he⟩
  · exact wakeupFirst_of_emits hs (.of_same (by simp)) (by simp)
  · exact wakeupFirst_of_emits hs (.of_same (by simp)) (by simp)
  · exact effect_wakeupFirst he (wakeupFirst_of_emits hs (.of_same (by simp)) (by simp))

/-! ### The modes of the frames (R244, R255(f)) -/

/-- The mode of a frame offered after the events so far. -/
def modeAfter (t : List Event) : SyncMode :=
  if lastBurst t = some (.wakeup, true) then .abbreviated else .full

/-- One more event: where it is a frame, its mode is the one due after the events before it. -/
theorem framesFollowWakeups_append {t : List Event} {e : Event} (h : FramesFollowWakeups t)
    (he : ∀ segs ok, e = .tx .frame segs ok → ∃ o, segs = buildF o (modeAfter t)) :
    FramesFollowWakeups (t ++ [e]) := by
  intro before segs ok after heq
  rcases List.eq_nil_or_concat after with rfl | ⟨after, x, rfl⟩
  · obtain ⟨rfl, hlast⟩ := List.append_inj' heq rfl
    exact he segs ok (List.singleton_inj.1 hlast)
  · rw [List.concat_eq_append, ← List.cons_append, ← List.append_assoc] at heq
    exact h before segs ok after (List.append_inj' heq rfl).1

/-- Events without a burst add no frame. -/
theorem framesFollowWakeups_of_no_bursts {t : List Event} (h : FramesFollowWakeups t) {new : List Event}
    (hnew : bursts new = []) : FramesFollowWakeups (t ++ new) := by
  induction new generalizing t with
  | nil => simpa using h
  | cons e rest ih =>
    obtain ⟨he, hrest⟩ := List.forall_mem_cons.1 (List.filterMap_eq_nil_iff.1 hnew)
    rw [List.append_cons]
    refine ih (framesFollowWakeups_append h ?_) (List.filterMap_eq_nil_iff.2 hrest)
    rintro segs ok rfl
    cases he

theorem Emits.framesFollowWakeups {n : Nat} {s t : State} (h : Emits n s t)
    (hs : FramesFollowWakeups s.trace) : FramesFollowWakeups t.trace := by
  obtain ⟨new, ht, hb, _⟩ := h
  rw [ht]
  exact framesFollowWakeups_of_no_bursts hs hb

/-- Events without a burst leave the burst offered last. -/
theorem Emits.lastBurst_eq {n : Nat} {s t : State} (h : Emits n s t) :
    lastBurst t.trace = lastBurst s.trace := by
  obtain ⟨new, ht, hb, _⟩ := h
  have hbursts : bursts (s.trace ++ new) = bursts s.trace ++ bursts new := List.filterMap_append
  rw [lastBurst, ht, hbursts, hb, List.append_nil, lastBurst]

/-- A burst that is offered is the last one. -/
theorem lastBurst_append_tx (t : List Event) (kind : BurstKind) (segs : List Segment) (ok : Bool) :
    lastBurst (t ++ [.tx kind segs ok]) = some (kind, ok) := by
  simp [lastBurst, bursts, burstOf]

/-- Both properties of the sync modes. -/
def SyncModes (s : State) : Prop := AbbrevFollowsWakeup s ∧ FramesFollowWakeups s.trace

/-- Where no burst is added, the properties stay with the queue, the flag and the continuation. -/
theorem syncModes_of_emits {n : Nat} {s t : State} (hs : SyncModes s) (h : Emits n s t)
    (hsame : t.q = s.q ∧ t.failureObserved = s.failureObserved ∧ t.pend = s.pend) : SyncModes t := by
  obtain ⟨habbrev, hframes⟩ := hs
  obtain ⟨hq, hf, hp⟩ := hsame
  refine ⟨?_, h.framesFollowWakeups hframes⟩
  rwa [AbbrevFollowsWakeup, h.lastBurst_eq, hq, hf, hp]

/-- An ENQUEUE keeps an Active block's continuation and gives an Idle one a full first frame: while Idle nothing
is pending, so the last burst was no accepted WAKEUP (R222, R38). -/
theorem enqueue_syncModes {k : Nat} {s : State} {ctl : Nibble} {n : SlotIx} {maxrep : BitVec 8}
    (hs : SyncModes s) (hactive : s.active = true ↔ s.pend ≠ none)
    (h : Emits k s ((s.enqueue ctl n maxrep).respond .accepted)) :
    SyncModes ((s.enqueue ctl n maxrep).respond .accepted) := by
  obtain ⟨⟨hpend, hlast⟩, hframes⟩ := hs
  refine ⟨?_, h.framesFollowWakeups hframes⟩
  rw [AbbrevFollowsWakeup, h.lastBurst_eq]
  by_cases hnone : s.pend = none
  · have hidle : s.active = false := by simpa [hnone] using hactive
    simp [State.enqueue_pend, hidle, hlast (.inl hnone)]
  · have hbusy : s.active = true := hactive.2 hnone
    have hkept : ((s.enqueue ctl n maxrep).respond .accepted).pend = s.pend := by
      simp [State.enqueue_pend, hbusy]
    rw [hkept]
    exact ⟨fun p hp hf => ⟨(hpend p hp (by simpa using hf)).1, by simp⟩, by simpa using hlast⟩

/-- The continuation STEP takes up. -/
theorem exists_pend_of_stepEnabled {s : State} {abbreviated : Bool} (h : s.stepEnabled = some abbreviated) :
    ∃ p, s.pend = some p ∧ p.abbreviated = abbreviated := by
  unfold State.stepEnabled at h
  split at h
  · rename_i p hp
    split at h <;> cases h
    exact ⟨p, hp, rfl⟩
  · cases h

/-- STEP(true) is the one after an accepted WAKEUP, whose command is still queued (R243, R244). -/
theorem abbreviated_iff_lastBurst {s : State} {abbreviated : Bool} (hs : AbbrevFollowsWakeup s)
    (he : s.stepEnabled = some abbreviated) (hf : s.failureObserved = false) :
    (abbreviated = true ↔ lastBurst s.trace = some (.wakeup, true)) ∧ (abbreviated = true → s.q ≠ []) := by
  obtain ⟨p, hp, rfl⟩ := exists_pend_of_stepEnabled he
  exact hs.1 p hp hf

/-- STEP finds the queue empty only where the last burst was no accepted WAKEUP. -/
theorem lastBurst_of_empty {s : State} {abbreviated : Bool} (hs : AbbrevFollowsWakeup s)
    (he : s.stepEnabled = some abbreviated) (hq : s.q = []) : lastBurst s.trace ≠ some (.wakeup, true) := by
  cases hf : s.failureObserved with
  | true => exact hs.2 (.inr hf)
  | false =>
    obtain ⟨hiff, hqueue⟩ := abbreviated_iff_lastBurst hs he hf
    exact fun hlast => hqueue (hiff.2 hlast) hq

/-- STEP keeps the properties: it ends a batch only after a burst that was no accepted WAKEUP, schedules STEP(true)
for an accepted WAKEUP alone, and sends the frame in the mode its continuation gives (R241 to R246). -/
theorem schedulerStep_syncModes {s : State} {abbreviated : Bool} (hs : SyncModes s)
    (he : s.stepEnabled = some abbreviated) : SyncModes (s.schedulerStep abbreviated) := by
  obtain ⟨habbrev, hframes⟩ := hs
  rcases State.schedulerStep_cases s abbreviated with
    ⟨hq, e⟩ | ⟨_, hf, e⟩ | ⟨hq, hf, _, e⟩ | ⟨c, rest, _, hf, _, e⟩ <;> rw [e]
  · have hlast := lastBurst_of_empty habbrev he hq
    exact ⟨by simpa [AbbrevFollowsWakeup] using hlast, by simpa using hframes⟩
  · have hlast := habbrev.2 (.inr hf)
    have hemits : Emits 1 s (s.withPend none).cancelBatch := emits_cancelBatch (s.withPend none)
    refine ⟨?_, hemits.framesFollowWakeups hframes⟩
    rw [AbbrevFollowsWakeup, hemits.lastBurst_eq]
    simpa using hlast
  · constructor
    · cases hr : s.txReply <;>
        simp [AbbrevFollowsWakeup, State.wakeStep_fields, lastBurst_append_tx, hr, hq, hf]
    · rw [(State.wakeStep_fields s).1]
      exact framesFollowWakeups_append hframes nofun
  · constructor
    · cases hr : s.txReply <;>
        simp [AbbrevFollowsWakeup, State.frameStep_fields, lastBurst_append_tx, hr, hf]
    · have hmode : syncModeOf abbreviated = modeAfter s.trace := by
        simp only [syncModeOf, modeAfter, (abbreviated_iff_lastBurst habbrev he hf).1]
      rw [(State.frameStep_fields s abbreviated c rest).1, hmode]
      refine framesFollowWakeups_append hframes fun segs ok heq => ?_
      cases heq
      exact ⟨_, rfl⟩

/-- Every operation keeps the properties of the sync modes. -/
theorem effect_syncModes {i : Instr} {s t : State} (h : Effect i s t) (hs : SyncModes s)
    (hactive : s.active = true ↔ s.pend ≠ none) : SyncModes t := by
  rcases effect_bursts h with ⟨abbreviated, he, rfl⟩ | rfl | ⟨hemits, _, hsame | ⟨n, ctl, maxrep, rfl⟩⟩
  · exact schedulerStep_syncModes hs he
  · simp [SyncModes, AbbrevFollowsWakeup, FramesFollowWakeups, lastBurst, bursts]
  · exact syncModes_of_emits hs hemits hsame
  · exact enqueue_syncModes hs hactive hemits

/-- Settles O49: of the invariant it needs only that an Idle block has nothing pending (R38). -/
theorem stepKeepsSyncModes : Obligations.StepKeepsSyncModes := by
  intro s t hinv habbrev hframes h
  have hs : SyncModes s := ⟨habbrev, hframes⟩
  obtain ⟨_, _, ⟨hactive, _⟩, _⟩ := hinv
  rcases step_cases h with ⟨d, _, rfl⟩ | ⟨w, r, _, rfl⟩ | ⟨x, i, _, _, he⟩
  · exact syncModes_of_emits hs (.of_same (by simp)) (by simp)
  · exact syncModes_of_emits hs (.of_same (by simp)) (by simp)
  · have hpop : SyncModes s.popTurn := syncModes_of_emits hs (.of_same (by simp)) (by simp)
    exact effect_syncModes he hpop (by simpa using hactive)

/-! ### ENQUEUE (R220 to R222) -/

/-- The smaller of the two repetition counts, as a number. -/
theorem repetitions_eq_min (configured maxrep : BitVec 8) :
    repetitions configured maxrep = BitVec.ofNat 8 (min configured.toNat maxrep.toNat) := by
  unfold repetitions
  split
  · rename_i hle
    rw [Nat.min_eq_left (BitVec.le_def.1 hle), BitVec.ofNat_toNat, BitVec.setWidth_eq]
  · rename_i hlt
    rw [Nat.min_eq_right (Nat.le_of_lt (BitVec.lt_def.1 (BitVec.not_le.1 hlt))), BitVec.ofNat_toNat,
      BitVec.setWidth_eq]

/-- An ENQUEUE with its response: its CONSUME advances and saves the counter, the entry goes to the tail (R220). -/
theorem enqueued_enqueue {s : State} {n : SlotIx} (ctl : Nibble) (maxrep : BitVec 8) (h : n.toNat < s.ch.length) :
    Enqueued ctl n (repetitions s.cfg.repeats maxrep) s ((s.enqueue ctl n maxrep).respond .accepted) := by
  obtain ⟨hch, hstore, htrace⟩ := State.enqueue_consumes s ctl n maxrep
  obtain ⟨hconsumed, hsaved⟩ := consumeBody_saves h
  have hslot (m : SlotIx) : ((s.enqueue ctl n maxrep).respond .accepted).slot m = (s.consumeBody n).slot m :=
    State.slot_congr (by simp [hch]) m
  refine ⟨State.enqueue_q s ctl n maxrep, (hslot n).trans (s.consumeBody_slot_same n h),
    ⟨by simp [hch], fun m hm => (hslot m).trans (s.consumeBody_slot_other n m hm)⟩, ?_, ?_, by simp [SameMarks],
    by simp, State.enqueue_pend s ctl n maxrep, by simp, by simp, by simp⟩
  · rw [State.respond_trace, htrace, hconsumed]
    rfl
  · have hstored : ((s.enqueue ctl n maxrep).respond .accepted).store = (s.consumeBody n).store := by
      simp [hstore]
    rw [StoreSaved, hstored]
    exact hsaved

/-- A queue whose length is not its capacity, or that has none, is not full (R221). -/
theorem queueFull_eq_false {s : State} (h : ∀ depth ∈ s.cfg.queueDepth, s.q.length ≠ depth) :
    s.queueFull = false := by
  unfold State.queueFull
  split
  · simpa using h _ ‹_›
  · rfl

/-- On a ready slot of the file and with room in the queue an ENQUEUE operation does its ENQUEUE. -/
theorem enqueued_of_ready {s : State} {n : SlotIx} (ctl : Nibble) (maxrep : BitVec 8) (hslots : SlotsOk s)
    (hn : n.toNat < s.cfg.nch) (hr : (s.slot n).ready = true)
    (hroom : ∀ depth ∈ s.cfg.queueDepth, s.q.length ≠ depth) :
    Enqueued ctl n (repetitions s.cfg.repeats maxrep) s (s.guardReady n (s.enqueueOp ctl n maxrep)) := by
  rw [guardReady_of_ready hn hr, State.enqueueOp, queueFull_eq_false hroom]
  exact enqueued_enqueue ctl maxrep (hslots.2 ▸ hn)

/-- Settles O28: the three requests are one ENQUEUE with different control codes. -/
theorem controlQueuesCommand : Obligations.ControlQueuesCommand := by
  intro s n hslots hn hr hroom
  have henqueued (ctl : Nibble) := enqueued_of_ready ctl s.cfg.repeats hslots hn hr hroom
  have hself : repetitions s.cfg.repeats s.cfg.repeats = s.cfg.repeats := ite_self _
  rw [hself] at henqueued
  exact ⟨⟨_, rfl, henqueued 0x1⟩, ⟨_, rfl, henqueued 0x2⟩, ⟨_, rfl, henqueued 0x4⟩⟩

/-- Settles O29: the ENQUEUE of PROGRAM, whose limit is 2 repetitions. -/
theorem programQueuesAtMostTwo : Obligations.ProgramQueuesAtMostTwo := by
  intro s n hslots hn hr hroom
  have henqueued := enqueued_of_ready ctlProgram programMaxReps hslots hn hr hroom
  rw [repetitions_eq_min] at henqueued
  exact ⟨_, rfl, henqueued⟩

/-- Settles O30: the capacity is checked before the CONSUME. -/
theorem fullQueueIsRefused : Obligations.FullQueueIsRefused := by
  intro s n hn hr hdepth i hi
  have hfull : s.queueFull = true := by simp [State.queueFull, hdepth]
  have hrefused (ctl : Nibble) (maxrep : BitVec 8) :
      s.guardReady n (s.enqueueOp ctl n maxrep) = s.refuse .queueFull := by
    rw [guardReady_of_ready hn hr, State.enqueueOp, hfull]
    rfl
  simp only [List.mem_cons, List.not_mem_nil, or_false] at hi
  rcases hi with rfl | rfl | rfl | rfl <;> exact congrArg Host.Outcome.next (hrefused _ _)

/-! ### STEP and WAKE_EXPIRE, case by case (R240 to R250) -/

/-- STEP with a due continuation runs the scheduler's step function with its argument (R240). -/
theorem exec_step_of_due {s : State} {p : Pending} (hp : s.pend = some p) (hdue : p.due ≤ s.now) :
    exec .step s = .next (s.schedulerStep p.abbreviated) := by
  simp [exec, execStep, State.stepEnabled, hp, hdue]

theorem schedulerStep_of_empty {s : State} (abbreviated : Bool) (hq : s.q = []) :
    s.schedulerStep abbreviated = (s.withPend none).goIdle := by
  simp [State.schedulerStep, hq]

theorem schedulerStep_of_failure {s : State} (abbreviated : Bool) (hq : s.q ≠ [])
    (hf : s.failureObserved = true) : s.schedulerStep abbreviated = (s.withPend none).cancelBatch := by
  obtain ⟨c, rest, hcons⟩ := List.exists_cons_of_ne_nil hq
  simp [State.schedulerStep, hcons, hf]

theorem schedulerStep_of_wakeup {s : State} (abbreviated : Bool) (hq : s.q ≠ [])
    (hf : s.failureObserved = false) (hn : s.needsWakeup = true) :
    s.schedulerStep abbreviated = (s.withPend none).wakeStep := by
  obtain ⟨c, rest, hcons⟩ := List.exists_cons_of_ne_nil hq
  simp [State.schedulerStep, hcons, hf, hn]

theorem schedulerStep_of_frame {s : State} (abbreviated : Bool) {c : Cmd} {rest : List Cmd}
    (hq : s.q = c :: rest) (hf : s.failureObserved = false) (hn : s.needsWakeup = false) :
    s.schedulerStep abbreviated = (s.withPend none).frameStep abbreviated c rest := by
  simp [State.schedulerStep, hq, hf, hn]

/-- Settles O32: the first of STEP's cases (R241). -/
theorem stepOnEmptyQueueGoesIdle : Obligations.StepOnEmptyQueueGoesIdle := by
  intro s p hp hdue hq
  rw [exec_step_of_due hp hdue, schedulerStep_of_empty _ hq]
  rfl

/-- Settles O33: the second of STEP's cases (R242). -/
theorem stepCancelsFailedBatch : Obligations.StepCancelsFailedBatch := by
  intro s p hp hdue hq hf
  rw [exec_step_of_due hp hdue, schedulerStep_of_failure _ hq hf]
  rfl

/-- Settles O34: the third of STEP's cases, by the port's answer (R243). -/
theorem stepSendsWakeup : Obligations.StepSendsWakeup := by
  intro s p hp hdue hq hf hn
  have hexec := exec_step_of_due hp hdue
  rw [schedulerStep_of_wakeup _ hq hf hn] at hexec
  obtain ⟨htrace, hq', hactive, hn', hf', hwt, hpend⟩ := State.wakeStep_fields s
  refine ⟨_, hexec, htrace, hq', by simp, by simp, hactive, by simp [SameMarks], ?_⟩
  rw [hn', hf', hwt, hpend]
  cases s.txReply with
  | false => exact ⟨hn, rfl, rfl, rfl⟩
  | true => exact ⟨rfl, rfl, hf, rfl⟩

/-- The duration of a frame burst in the mode of a STEP (R197). -/
theorem dur_frameBurst (c : Cmd) (abbreviated : Bool) :
    dur (frameBurst c (syncModeOf abbreviated)) = if abbreviated then 82466 else 106626 := by
  rw [frameBurst, (dur_buildF _ _).1]
  cases abbreviated <;> rfl

/-- Settles O35: the fourth of STEP's cases, by the port's answer (R244 to R246). -/
theorem stepSendsFrame : Obligations.StepSendsFrame := by
  intro s p c rest hp hdue hq hf hn segs
  have hexec := exec_step_of_due hp hdue
  rw [schedulerStep_of_frame _ hq hf hn] at hexec
  obtain ⟨htrace, hq', hactive, hn', hf', hwt, hpend⟩ := State.frameStep_fields s p.abbreviated c rest
  refine ⟨_, hexec, htrace, by simp, by simp, hactive, hn'.trans hn, hwt, by simp [SameMarks], ?_⟩
  rw [hq', hf', hpend, dur_frameBurst]
  cases s.txReply with
  | false => exact ⟨rfl, rfl, rfl⟩
  | true => exact ⟨rfl, hf, rfl⟩

/-- Settles O37. -/
theorem wakeExpireRearms : Obligations.WakeExpireRearms := by
  intro s due hwt hdue
  have henabled : s.wakeEnabled = true := wakeEnabled_iff.2 ⟨due, hwt, hdue⟩
  rw [exec, execWakeExpire, if_pos henabled]
  rfl

/-- STEP is not enabled before the continuation is due, nor without one (R240). -/
theorem stepEnabled_eq_none {s : State} (h : ∀ p ∈ s.pend, s.now < p.due) : s.stepEnabled = none := by
  unfold State.stepEnabled
  split
  · exact if_neg (Nat.not_le.2 (h _ ‹_›))
  · rfl

/-- Settles O38. -/
theorem disabledEventsChangeNothing : Obligations.DisabledEventsChangeNothing := by
  intro s
  refine ⟨fun h => ?_, fun h => ?_⟩
  · rw [exec, execStep, stepEnabled_eq_none h]
  · have hdisabled : ¬ s.wakeEnabled = true := by
      rw [wakeEnabled_iff]
      rintro ⟨due, hwt, hle⟩
      exact Nat.not_lt.2 hle (h due hwt)
    rw [exec, execWakeExpire, if_neg hdisabled]

/-! ### A rejected burst ends its batch (R247, R255(g)) -/

/-- STEP whose burst is rejected, a wakeup or a frame: the failure is observed, the queue stays and the next STEP is
due at once (R243, R245). -/
theorem exec_step_rejected {s : State} {p : Pending} (hp : s.pend = some p) (hdue : p.due ≤ s.now)
    (hq : s.q ≠ []) (hf : s.failureObserved = false) (hr : s.txReply = false) :
    ∃ t kind segs, exec .step s = .next t ∧ t.trace = s.trace ++ [.tx kind segs false] ∧ t.q = s.q ∧
      t.ch = s.ch ∧ t.failureObserved = true ∧ t.pend = some { due := t.now, abbreviated := false } := by
  cases hn : s.needsWakeup with
  | true =>
    obtain ⟨t, hexec, htrace, hq', hch, _, _, ⟨_, hnow, _⟩, hreply⟩ := stepSendsWakeup s p hp hdue hq hf hn
    rw [hr] at htrace hreply
    obtain ⟨_, _, hfailed, hpend⟩ := hreply
    exact ⟨t, _, _, hexec, htrace, hq', hch, hfailed, by rw [hpend, hnow]⟩
  | false =>
    obtain ⟨c, rest, hcons⟩ := List.exists_cons_of_ne_nil hq
    obtain ⟨t, hexec, htrace, hch, _, _, _, _, ⟨_, hnow, _⟩, hreply⟩ :=
      stepSendsFrame s p c rest hp hdue hcons hf hn
    rw [hr] at htrace hreply
    obtain ⟨hq', hfailed, hpend⟩ := hreply
    exact ⟨t, _, _, hexec, htrace, hq', hch, hfailed, by rw [hpend, hnow]⟩

/-- Settles O39: the first STEP's burst is rejected, and the second one cancels the batch. -/
theorem rejectionEmptiesQueueNextStep : Obligations.RejectionEmptiesQueueNextStep := by
  intro s p rest hp hdue hq hf hturns hr
  have hfirst := step_presented hturns (i := .step) rfl
  obtain ⟨t, kind, segs, hexec, htrace, hq', hch, hfailed, hpend⟩ :=
    exec_step_rejected (s := s.withEnv { s.env with turns := .input .step :: rest }) hp hdue hq hf hr
  have hsecond := step_presented (effect_turns (exec_effect hexec)) (i := .step) rfl
  have hcancel := stepCancelsFailedBatch (t.withEnv { t.env with turns := rest }) _ hpend (Nat.le_refl _)
    (by simpa [hq'] using hq) hfailed
  refine ⟨_, kind, segs, (run_succ (hfirst.trans hexec)).trans (run_succ (hsecond.trans hcancel)), rfl, rfl, rfl,
    rfl, hch, ?_⟩
  simp [htrace, hq']

/-! ### A queue sent to its end (R246, R255(b), (c)) -/

/-- The TX port's answer with carrier 0 is the first of the environment's listed answers, which it uses up (R285). -/
theorem txSend_of_cons {s : State} {ok : Bool} {rest : List Bool} (hc : s.cfg.txCarrier = 0)
    (h : s.env.txs = ok :: rest) :
    s.txReply = ok ∧ ∀ kind segs, (s.txSend kind segs).env.txs = rest := by
  refine ⟨by simp [State.txReply, State.freeTxReply, hc, h], fun kind segs => ?_⟩
  simp [State.txSend, State.popTx, hc, h]

/-- A frame takes one of the environment's listed answers (R285). -/
theorem frameStep_txs {s : State} {ok : Bool} {answers : List Bool} (abbreviated : Bool) (c : Cmd)
    (rest : List Cmd) (hc : s.cfg.txCarrier = 0) (h : s.env.txs = ok :: answers) :
    (s.frameStep abbreviated c rest).env.txs = answers := by
  have hsent := (txSend_of_cons hc h).2
  unfold State.frameStep
  dsimp only
  split <;> simp [hsent]

/-- A well-formed entry has a repetition to come. -/
theorem remaining_pos {c : Cmd} (h : cmdOk c = true) : 0 < remaining c := by
  obtain ⟨_, _, _, hlt⟩ := cmdOk_iff.1 h
  exact Nat.sub_pos_of_lt hlt

@[simp] theorem remainingAll_cons (c : Cmd) (rest : List Cmd) :
    remainingAll (c :: rest) = remaining c + remainingAll rest := by simp [remainingAll]

/-- Where well-formed entries have no repetition to come, there are none. -/
theorem eq_nil_of_remainingAll {q : List Cmd} (hq : ∀ c ∈ q, cmdOk c = true) (h : remainingAll q = 0) :
    q = [] := by
  cases q with
  | nil => rfl
  | cons c rest =>
    have hpos := remaining_pos (hq c (List.mem_cons_self ..))
    rw [remainingAll_cons] at h
    omega

/-- One more repetition of a well-formed head is its last one, and the head goes, or leaves one less to come. -/
theorem remaining_afterRepetition {c : Cmd} (rest : List Cmd) (h : cmdOk c = true) :
    (remaining c = 1 ∧ afterRepetition c rest = rest) ∨
      (remaining c = remaining { c with done := c.done + 1 } + 1 ∧
        afterRepetition c rest = { c with done := c.done + 1 } :: rest) := by
  obtain ⟨_, _, _, hlt⟩ := cmdOk_iff.1 h
  have hreq := c.req.isLt
  have hsucc : (c.done + 1).toNat = c.done.toNat + 1 := by
    have hone : (1 : BitVec 8).toNat = 1 := rfl
    rw [BitVec.toNat_add, hone]
    omega
  simp only [remaining, afterRepetition, BitVec.le_def, hsucc]
  split
  · exact .inl ⟨by omega, rfl⟩
  · exact .inr ⟨by omega, rfl⟩

theorem remainingAll_afterRepetition {c : Cmd} (rest : List Cmd) (h : cmdOk c = true) :
    remainingAll (c :: rest) = remainingAll (afterRepetition c rest) + 1 := by
  rcases remaining_afterRepetition rest h with ⟨hone, e⟩ | ⟨hmore, e⟩ <;> rw [e]
  · rw [remainingAll_cons, hone, Nat.add_comm]
  · rw [remainingAll_cons, remainingAll_cons, hmore, Nat.add_right_comm]

/-- The frames of a queue are the one to send now and those that are left after it. -/
theorem framesOf_afterRepetition {c : Cmd} (rest : List Cmd) (h : cmdOk c = true) :
    framesOf (c :: rest) = .tx .frame (frameBurst c .full) true :: framesOf (afterRepetition c rest) := by
  rcases remaining_afterRepetition rest h with ⟨hone, e⟩ | ⟨hmore, e⟩ <;> rw [e]
  · simp [framesOf, hone]
  · simp only [framesOf, List.flatMap_cons, hmore, List.replicate_succ]
    rfl

/-- STEP(false) with the frame accepted: one full frame of the head, and the next one due after it and its gap. -/
theorem exec_step_full_frame {s : State} {p : Pending} {c : Cmd} {rest : List Cmd} {answers : List Bool}
    (hp : s.pend = some p) (hfull : p.abbreviated = false) (hdue : p.due ≤ s.now) (hq : s.q = c :: rest)
    (hf : s.failureObserved = false) (hn : s.needsWakeup = false) (hc : s.cfg.txCarrier = 0)
    (htxs : s.env.txs = true :: answers) :
    ∃ t, exec .step s = .next t ∧ t.q = afterRepetition c rest ∧
      t.trace = s.trace ++ [.tx .frame (frameBurst c .full) true] ∧ t.active = s.active ∧ t.ch = s.ch ∧
      t.cfg = s.cfg ∧ t.needsWakeup = false ∧ t.failureObserved = false ∧ t.env.txs = answers ∧
      t.pend = some { due := t.now + (106626 + s.cfg.ifg), abbreviated := false } := by
  have hexec := exec_step_of_due hp hdue
  rw [schedulerStep_of_frame _ hq hf hn, hfull] at hexec
  have hr : s.txReply = true := (txSend_of_cons hc htxs).1
  obtain ⟨htrace, hq', hactive, hn', hf', _, hpend⟩ := State.frameStep_fields s false c rest
  rw [hr] at htrace hq' hf' hpend
  exact ⟨_, hexec, hq', htrace, hactive, by simp, by simp, hn'.trans hn, hf'.trans hf,
    frameStep_txs false c rest hc htxs, by simpa [dur_frameBurst] using hpend⟩

/-- A batch of frames under way: no wakeup needed, no failure, carrier 0, and a full frame due within `d`, which is
at least the time from one full frame to the next. -/
def Sending (d : Nat) (s : State) : Prop :=
  (∀ c ∈ s.q, cmdOk c = true) ∧ s.needsWakeup = false ∧ s.failureObserved = false ∧ s.cfg.txCarrier = 0 ∧
    106626 + s.cfg.ifg ≤ d ∧ ∃ p, s.pend = some p ∧ p.abbreviated = false ∧ p.due ≤ s.now + d

/-- An advance of `now` and a STEP presented after it are two steps of a run. -/
theorem run_advance_step {s t : State} {d : Nat} {turns : List Turn}
    (hturns : s.env.turns = .advance d :: .input .step :: turns)
    (h : exec .step ((s.withEnv { s.env with turns := turns }).advance d) = .next t) (k : Nat) :
    core.run (k + 2) s = core.run k t :=
  (run_succ (step_advance hturns)).trans (run_succ ((step_presented rfl rfl).trans h))

/-- One advance of `now` and one STEP of such a batch send one accepted full frame of the head. -/
theorem sending_one_frame {d : Nat} {s : State} {c : Cmd} {rest : List Cmd} {answers : List Bool}
    {turns : List Turn} (hs : Sending d s) (hq : s.q = c :: rest) (htxs : s.env.txs = true :: answers)
    (hturns : s.env.turns = .advance d :: .input .step :: turns) :
    ∃ t, (∀ k, core.run (k + 2) s = core.run k t) ∧ Sending d t ∧ t.q = afterRepetition c rest ∧
      t.trace = s.trace ++ [.tx .frame (frameBurst c .full) true] ∧ t.active = s.active ∧ t.ch = s.ch ∧
      t.env.txs = answers ∧ t.env.turns = turns := by
  obtain ⟨hcmds, hn, hf, hc, hgap, p, hp, hfull, hdue⟩ := hs
  obtain ⟨t, hexec, hq', htrace, hactive, hch, hcfg, hn', hf', htxs', hpend⟩ :=
    exec_step_full_frame (s := (s.withEnv { s.env with turns := turns }).advance d) hp hfull hdue hq hf hn hc htxs
  refine ⟨t, run_advance_step hturns hexec, ⟨?_, hn', hf', ?_, ?_, _, hpend, rfl, ?_⟩, hq', htrace, hactive, hch,
    htxs', effect_turns (exec_effect hexec)⟩
  · rw [hq']
    exact cmdOk_afterRepetition (hq ▸ hcmds)
  · exact hcfg ▸ hc
  · exact hcfg ▸ hgap
  · exact Nat.add_le_add_left hgap _

/-- Such a batch is sent to its end. -/
theorem sending_drains {k d : Nat} {s : State} {xs : List Bool} {rest : List Turn} (hs : Sending d s)
    (hk : remainingAll s.q = k) (htxs : s.env.txs = List.replicate k true ++ xs)
    (hturns : s.env.turns = (List.replicate k [.advance d, .input .step]).flatten ++ rest) :
    ∃ t, core.run (2 * k) s = .next t ∧ t.q = [] ∧ t.trace = s.trace ++ framesOf s.q ∧
      t.active = s.active ∧ t.ch = s.ch ∧ t.needsWakeup = false := by
  induction k generalizing s with
  | zero =>
    obtain ⟨hcmds, hn, _⟩ := hs
    have hq := eq_nil_of_remainingAll hcmds hk
    exact ⟨s, rfl, hq, by simp [hq, framesOf], rfl, rfl, hn⟩
  | succ k ih =>
    cases hq : s.q with
    | nil => simp [hq, remainingAll] at hk
    | cons c queue =>
      obtain ⟨t, hrun, ht, hq', htrace, hactive, hch, htxs', hturns'⟩ := sending_one_frame hs hq htxs hturns
      have hc : cmdOk c = true := hs.1 c (by simp [hq])
      have hk' : remainingAll t.q = k := by
        rw [hq, remainingAll_afterRepetition queue hc, ← hq'] at hk
        exact Nat.succ.inj hk
      obtain ⟨u, hrest, hempty, htrace', hactive', hch', hawake⟩ := ih ht hk' htxs' hturns'
      refine ⟨u, (hrun (2 * k)).trans hrest, hempty, ?_, hactive'.trans hactive, hch'.trans hch, hawake⟩
      rw [htrace', htrace, framesOf_afterRepetition queue hc, hq', List.append_assoc, List.singleton_append]

/-- Settles O40, by induction on the number of repetitions left. -/
theorem queueDrainsInOrder : Obligations.QueueDrainsInOrder := by
  intro s p d xs rest hcmds hn hf hc hp hfull hdue hgap htxs hturns
  exact sending_drains ⟨hcmds, hn, hf, hc, hgap, p, hp, hfull, hdue⟩ rfl htxs hturns

end Sys2Proof.Machine

/-! PROOFS. Exceptions (60_exceptions.md): which operation can set the refusal mark, the two warnings that change
nothing else, and the TX port's answer by the carrier. -/

namespace Sys2Proof.Machine

/-! ### The refusal mark (R280) -/

/-- Besides RESET, which clears the refusal mark, an operation is refused or leaves the mark as it was. -/
theorem effect_refuse_or_refused_eq {i : Instr} {s t : State} (h : Effect i s t) (hi : i ≠ .reset) :
    (∃ r, t = s.refuse r) ∨ t.refused = s.refused := by
  cases h with
  | refuse r => exact .inl ⟨r, rfl⟩
  | step abbreviated _ =>
    obtain ⟨_, _, _, hrefused, _⟩ := State.schedulerStep_frame s abbreviated
    exact .inr hrefused
  | reset => exact absurd rfl hi
  | _ => exact .inr (by simp)

/-- Settles O46: only a refusal sets the mark, and only RESET clears it. -/
theorem refusalIsStickyAndInert : Obligations.RefusalIsStickyAndInert := by
  intro i s t h
  have heffect := exec_effect h
  refine ⟨fun hs hi => ?_, fun hs ht => ?_⟩
  · rcases effect_refuse_or_refused_eq heffect hi with ⟨r, rfl⟩ | hsame
    · exact State.refuse_refused s r
    · exact hsame.trans hs
  · have hi : i ≠ .reset := by
      rintro rfl
      simp [effect_reset heffect] at ht
    rcases effect_refuse_or_refused_eq heffect hi with ⟨r, rfl⟩ | hsame
    · exact ⟨r, rfl⟩
    · simp [hsame, hs] at ht

/-! ### The warnings (R276, R277) -/

/-- An error raised and a response given: the trace gains the two events, and nothing else changes (R270, R99). -/
theorem raise_respond_eq (s : State) (e : BlockError) (v : Resp) :
    (s.raise e).respond v = { s with trace := s.trace ++ [.log (.error e), .resp v] } := by
  simp [State.raise, State.log, State.respond, State.emit, State.withTrace]

/-- Settles O15: the warning leaves the slot as it was, so the response names the values it had. -/
theorem configNothingWarns : Obligations.ConfigNothingWarns := by
  intro s n hn hr
  have hdone : s.guardReady n (s.configNothing n) = s.configNothing n := guardReady_of_ready hn hr _
  exact congrArg Host.Outcome.next (hdone.trans (raise_respond_eq s _ _))

/-- CONTROL of a ready slot of the file with a request that is none of the three does not reach the queue (R225,
R277). -/
theorem control_of_not_isRequest {s : State} {n : SlotIx} {sub : Nibble} (hn : n.toNat < s.cfg.nch)
    (hr : (s.slot n).ready = true) (hsub : isRequest sub = false) :
    s.control n sub = { s with trace := s.trace ++ [.log (.error (.invalidCommand n sub)), .resp .ignored] } := by
  rw [State.control, guardReady_of_ready hn hr, hsub]
  exact raise_respond_eq s _ _

/-- Settles O31: each of the thirteen rows is CONTROL with its own request. -/
theorem invalidControlIsIgnored : Obligations.InvalidControlIsIgnored := by
  intro s n hn hr x hx
  simp only [List.mem_cons, List.not_mem_nil, or_false] at hx
  rcases hx with rfl | rfl | rfl | rfl | rfl | rfl | rfl | rfl | rfl | rfl | rfl | rfl | rfl <;>
    exact congrArg Host.Outcome.next (control_of_not_isRequest hn hr rfl)

/-! ### The carrier (R285) -/

/-- Settles O36. -/
theorem carrierRejectsEveryBurst : Obligations.CarrierRejectsEveryBurst := fun s =>
  ⟨s.txReply_of_carrier, fun _ _ hc h => (txSend_of_cons hc h).1⟩

end Sys2Proof.Machine
